-- ==== Sys2Proof/Word.lean ====
section
/-!
DEFINITION. The JL7208's bit-level types and the saturating additions its counts use (00_scope.md
section 0.6: "Counts described as saturating stop at their largest value and do not wrap").
Everything here is a synonym or plain arithmetic; meanings stand in Sys2Proof/Machine.
-/

namespace Sys2Proof

/-- Four bits: one data nibble of a lane symbol (Table 11-1). -/
abbrev Nibble := BitVec 4

/-- Eight bits: a byte of a lane message, a domain number, a generation. -/
abbrev Byte := BitVec 8

/-- Sixteen bits: one word of the host window (R172). -/
abbrev Word16 := BitVec 16

/-- Thirty-two bits: a value of the millisecond counter (R180). -/
abbrev Time := BitVec 32

/-- A 48-bit station address; byte 0, the first on the wire, is its most significant byte. -/
abbrev Address := BitVec 48

/-- A set of lanes; bit n stands for lane n (R183). -/
abbrev LaneSet := BitVec 8

/-- A lane number, L0 to L7. -/
abbrev LaneNo := Fin 8

/-- A tag number of a lane, 0 to 15 (R127). -/
abbrev TagNo := Fin 16

/-- A command slot number, 0 to 3 (R140). -/
abbrev SlotNo := Fin 4

/-- A meter profile number, 0 to 31 (R86). -/
abbrev ProfileNo := Fin 32

/-- `a + b`, stopping at `top` (section 0.6). -/
def satAdd (top a b : Nat) : Nat := min (a + b) top

/-- One more event on a 32-bit saturating statistic (R18, R96, R138). -/
def raise32 (n : Nat) : Nat := satAdd (2 ^ 32 - 1) n 1

end Sys2Proof
end

