-- ==== Sys2Proof/Config.lean ====
section
/-!
DEFINITION. The fixed sizes of the JL7208 and the reset values the manual gives for them, each with
its rule. The manual leaves no value of the part open (00_scope.md: it "gives the behaviour of the
part under every programming and in every case the part can meet"), so there is no free value here.
-/

namespace Sys2Proof.Config

/-- Buckets of the main table (R4). -/
abbrev buckets : Nat := 2048
/-- Refs of the main table: 2048 buckets of 4 ways (R4). -/
abbrev mainRefs : Nat := 8192
/-- Slots of the spill area (R4). -/
abbrev spillSlots : Nat := 64
/-- All refs, 0 to 8255 (R4). -/
abbrev allRefs : Nat := 8256
/-- Steps of a sweep or a walk: 2048 buckets and 8 groups of 8 spill slots (R74, R162). -/
abbrev walkSteps : Nat := 2056
/-- Counter sets of the pool (R102). -/
abbrev counterSets : Nat := 1024
/-- The floor of a meter's credit, in bytes below zero; also the largest ceiling (R86, R93). -/
abbrev creditBound : Nat := 16777215
/-- The largest value a move count reaches (R12). -/
abbrev movesTop : Nat := 15
/-- The spill watermark after device reset (R15). -/
abbrev spillMarkReset : Nat := 48
/-- The timebase divider after device reset (R180). -/
abbrev dividerReset : Byte := 50
/-- Microsecond ticks in a millisecond tick (R180). -/
abbrev ticksPerMs : Nat := 1000
/-- The reset value of the reset word (Table 11-4). -/
abbrev resetValue : Word16 := 0x5A17
/-- The code for ANY in a command word (R185). -/
abbrev anyCode : Word16 := 0xFFFE
/-- The code for NONE in a command word (R185). -/
abbrev noneCode : Word16 := 0xFFFF

end Sys2Proof.Config
end

