-- ==== Sys2Proof/Syntax.lean ====
section
/-!
DEFINITION. The commands of the block: one constructor of `Instr` for each row of
spec/opcode_table.json. A row is a step of the part, "each whole and indivisible"
(95_what_each_step_holds.md). A host command of Table 8-3 carries no operands here, because it takes
them from the command block of the RUNNING slot (R142, R150); a resolve, a settle operation, a sweep
step and a table command carry only how much of the table operation the step performs, since a grant
goes to whichever requester the arbiter chooses (R22).
-/

namespace Sys2Proof

/-- What can stand between two frame marks on a lane's receive side (Table 11-1, R182). -/
inductive Symbol where
  /-- Control low: a data nibble. -/
  | nibble (v : Nibble)
  /-- Control high, data 0x0: skipped wherever it stands. -/
  | idle
  /-- Control high, data 0x2 to 0xF: not stored; spoils the message it falls in. -/
  | codingError
deriving DecidableEq, Repr

/-- How a received message is opened (R182). That it is an operand is the model's (DESIGN CHOICE, log 6). -/
inductive Opening where
  /-- A frame mark of its own stands before it. -/
  | own
  /-- It is sent back to back: the mark that closed what came before it opens it. On a lane that has
  seen no frame mark since it left DOWN, this is also the message whose opening mark came while the
  lane was DOWN (R117). -/
  | shared
deriving DecidableEq, Repr

/-- How much of a table operation of the Command Unit or the Aging Sweep one command performs (R23).
`whole` is the operation as the table of steps lists it. `grant` begins it and `finish` ends it, so
that the happenings R23 allows while an operation is in progress can be put between the two (DESIGN
CHOICE, log 3). -/
inductive OpPart where
  | whole
  | grant
  | finish
deriving DecidableEq, Repr

/-- How much of a lane's table operation one command performs (R23, R133). `whole` is the operation as
the table of steps lists it. `grant` takes the item in hand, `perform` makes the effects on the table
and the deliveries to other blocks, and `finish` hands the result back to the lane (R134, R137),
making the effects first when `perform` has not come before it (DESIGN CHOICE, log 3). -/
inductive LaneOpPart where
  | whole
  | grant
  | perform
  | finish
deriving DecidableEq, Repr

/-- The commands: one constructor for each row of spec/opcode_table.json. -/
inductive Instr where
  /-- LOOKUP (R129): a LOOKUP message is received whole on a lane; `tag` is the whole tag byte. -/
  | lookup (lane : LaneNo) (opening : Opening) (tag domain : Byte) (destination source : Address)
  /-- SETTLE (R130): a SETTLE message is received whole on a lane; `outcome` is the whole byte. -/
  | settle (lane : LaneNo) (opening : Opening) (tag outcome : Byte) (byteCount : Word16)
  /-- RESTART (R124): a RESTART message is received whole on a lane. -/
  | restart (lane : LaneNo) (opening : Opening)
  /-- TRANSMIT_MESSAGE (R126): a lane's transmit side goes on to the next decided message. -/
  | transmitMessage (lane : LaneNo)
  /-- RESOLVE (R37): the arbiter's grant goes to a lane whose head item is a LOOKUP item. -/
  | resolve (part : LaneOpPart)
  /-- SETTLE_OPERATION (R135): the grant goes to a lane whose head item is a SETTLE item. -/
  | settleOperation (part : LaneOpPart)
  /-- SETTLE_TIMEOUT (R131): the settle timer of a SETTLING tag runs out. -/
  | settleTimeout (lane : LaneNo) (tag : TagNo)
  /-- AGE_TICK (R72): the age timer runs out. -/
  | ageTick
  /-- SWEEP_STEP (R74): the grant goes to the Aging Sweep. -/
  | sweepStep (part : OpPart)
  /-- PAUSE_EXPIRY (R99): the remaining time of a lane's pause record reaches zero. -/
  | pauseExpiry (lane : LaneNo)
  /-- MICROSECOND_TICK (R180). -/
  | microsecondTick
  /-- MILLISECOND_TICK (R180). -/
  | millisecondTick
  /-- COMMAND_START (R142): the head of the submission order starts. -/
  | commandStart
  /-- INSERT (R151). -/
  | insert (part : OpPart)
  /-- UPDATE (R154). -/
  | update (part : OpPart)
  /-- REMOVE (R158). -/
  | remove (part : OpPart)
  /-- REMOVE_KEY (R158). -/
  | removeKey (part : OpPart)
  /-- FIND (R159). -/
  | find (part : OpPart)
  /-- READ (R160). -/
  | read (part : OpPart)
  /-- ATTACH (R104). -/
  | attach (part : OpPart)
  /-- DETACH (R105). -/
  | detach (part : OpPart)
  /-- SET_HASH (R17). -/
  | setHash (part : OpPart)
  /-- SET_SPILL_MARK (R16). -/
  | setSpillMark (part : OpPart)
  /-- READ_TABLE_STATS (R19). -/
  | readTableStats (part : OpPart)
  /-- FLUSH (R165): one step of the walk. -/
  | flush (part : OpPart)
  /-- COUNT (R166): one step of the walk. -/
  | count (part : OpPart)
  /-- SEARCH (R167): one step of the walk. -/
  | search (part : OpPart)
  /-- SET_DOMAIN (R28). -/
  | setDomain
  /-- READ_DOMAIN (R29). -/
  | readDomain
  /-- SET_PROFILE (R87). -/
  | setProfile
  /-- READ_PROFILE (R88). -/
  | readProfile
  /-- READ_COUNTERS (R109). -/
  | readCounters
  /-- RECLAIM (R111). -/
  | reclaim
  /-- SET_POOL (R112). -/
  | setPool
  /-- SET_AGING (R73). -/
  | setAging
  /-- SWEEP_NOW (R78). -/
  | sweepNow
  /-- LANE_ENABLE (R117). -/
  | laneEnable
  /-- LANE_SET (R118). -/
  | laneSet
  /-- LANE_DISABLE (R119). -/
  | laneDisable
  /-- LANE_RELEASE (R120). -/
  | laneRelease
  /-- READ_LANE_STATS (R138). -/
  | readLaneStats
  /-- PAUSE_CANCEL (R100). -/
  | pauseCancel
  /-- SUBMIT (R141): a host write of any value to the SUBMIT word. -/
  | submit (value : Word16)
  /-- RETIRE (R144): a host write to the RETIRE word. -/
  | retire (value : Word16)
  /-- ABORT (R145): a host write to the ABORT word. -/
  | abort (value : Word16)
  /-- INTERRUPT_PENDING (R178): a host write to the interrupt pending word. -/
  | interruptPending (value : Word16)
  /-- INTERRUPT_ENABLE (R179): a host write to the interrupt enable word. -/
  | interruptEnable (value : Word16)
  /-- TIMEBASE_DIVIDER (R180): a host write to the divider word. -/
  | timebaseDivider (value : Word16)
  /-- MILLISECOND_COUNTER_LOW_READ (R177): a host read of the counter's low word. -/
  | millisecondCounterLowRead
  /-- RESET_WORD (R181): a host write to the reset word. -/
  | resetWord (value : Word16)
  /-- RESET_PIN (R181): RESET# goes low. -/
  | resetPin
  /-- RESET_PIN_RELEASE (R187): RESET# rises. -/
  | resetPinRelease
  /-- REGISTER_WRITE (R172): a host write to a word that no other row takes. -/
  | registerWrite (address : BitVec 7) (value : Word16)
  /-- MALFORMED_MESSAGE (R121): what stands between two frame marks fails the tests of R121. -/
  | malformedMessage (lane : LaneNo) (opening : Opening) (body : List Symbol)
deriving DecidableEq, Repr

end Sys2Proof
end

