-- ==== Sys2Proof/Machine/State.lean ====
section
/-!
DEFINITION. The state of the JL7208, as plain data: every table, record, setting, count, queue and
pin the manual names, and the queue of commands waiting to be taken. INVENTORY.md lists each field
with the rule that names it and its value after device reset.

The large tables (8256 entries, 256 domain records, 1024 counter sets, ...) are held as sparse
stores: a list of (number, record) pairs in which a record that stands at its reset value is not
listed. `Sys2Proof.Machine.fetch` and `put` (Machine/Ops.lean) read and write them.
-/

namespace Sys2Proof.Machine

/-- A numbered table, listing only the records that differ from their reset value. Its canonical form
has strictly rising numbers and no record equal to the reset value (DESIGN CHOICE, log 7). -/
abbrev Store (α : Type) := List (Nat × α)

/-! ### The station table (Chapter 1) -/

/-- A key: the pair (domain, station address) that identifies an entry (R1). -/
structure Key where
  domain : Byte
  address : Address
deriving DecidableEq, Repr

/-- A policy of an entry (Table 1-1). -/
inductive Policy where
  | allow
  | deny
deriving DecidableEq, Repr

/-- A ref with its generation: the name of one lifetime of an entry (R5). -/
structure Pair where
  ref : Nat
  generation : Byte
deriving DecidableEq, Repr

/-- The kind of an entry with the field Table 1-1 gives that kind. -/
inductive Place where
  /-- Kind UNICAST with its home lane. -/
  | unicast (home : LaneNo)
  /-- Kind GROUP with its member set. -/
  | group (members : LaneSet)
deriving DecidableEq, Repr

/-- The fields of a learned entry: hit, moves and frozen (R12). -/
structure Aging where
  hit : Bool
  moves : Nat
  frozen : Bool
deriving DecidableEq, Repr

/-- The origin of a NEW entry: lane and tag of the lookup that created it (R3). -/
structure Origin where
  lane : LaneNo
  tag : TagNo
deriving DecidableEq, Repr

/-- The state of an occupied entry with the fields Table 1-1 marks present for it (R2). -/
inductive Life where
  | new (aging : Aging) (origin : Origin)
  | live (aging : Aging)
  | stale (aging : Aging)
  | pinned
deriving DecidableEq, Repr

/-- The meter of an entry: profile, credit in bytes and stamp in ms (section 5.2). -/
structure Meter where
  profile : ProfileNo
  credit : Int
  stamp : Time
deriving DecidableEq, Repr

/-- Every field of an occupied entry but its generation (Table 1-1). -/
structure Occupant where
  key : Key
  place : Place
  sourcePolicy : Policy
  destinationPolicy : Policy
  life : Life
  meter : Option Meter
  counterSet : Option Nat
deriving DecidableEq, Repr

/-- An entry: its generation, and its other fields when it is occupied; `none` is FREE (R2). -/
structure Entry where
  generation : Byte
  occupant : Option Occupant
deriving DecidableEq, Repr

/-- An entry after device reset: FREE, generation 0 (R24). -/
def Entry.reset : Entry := ⟨0, none⟩

/-- The three occupancy counts (R14). -/
structure Occupancy where
  main : Nat
  spill : Nat
  free : Nat
deriving DecidableEq, Repr

/-- The nine table statistics, in the order of R18. -/
structure TableStats where
  learned : Nat
  learnFailures : Nat
  agedOut : Nat
  unconfirmedRetired : Nat
  rejected : Nat
  hostRemoved : Nat
  flushed : Nat
  frozen : Nat
  sweepOverruns : Nat
deriving DecidableEq, Repr

/-- The table statistics after device reset (R18). -/
def TableStats.zero : TableStats := ⟨0, 0, 0, 0, 0, 0, 0, 0, 0⟩

/-! ### Domains (Chapter 2) -/

/-- What becomes of frames for unknown destinations (Table 2-1). -/
inductive UnknownPolicy where
  | flood
  | drop
deriving DecidableEq, Repr

/-- A domain record: the eight fields of Table 2-1, in its order. -/
structure Domain where
  enabled : Bool
  members : LaneSet
  learning : Bool
  unknownUnicast : UnknownPolicy
  unknownGroup : UnknownPolicy
  defaultProfile : Option ProfileNo
  autoCount : Bool
  moveLimit : Nat
deriving DecidableEq, Repr

/-- A domain record after device reset (Table 2-2). -/
def Domain.reset : Domain := ⟨false, 0, false, .flood, .flood, none, false, 0⟩

/-! ### Meter profiles and pause records (Chapter 5) -/

/-- What a resolve does when the credit is spent (Table 5-1). -/
inductive MeterAction where
  | drop
  | pause
deriving DecidableEq, Repr

/-- A meter profile: the five fields of Table 5-1, in its order. -/
structure Profile where
  enabled : Bool
  refill : Word16
  ceiling : Nat
  action : MeterAction
  quantum : Word16
deriving DecidableEq, Repr

/-- A meter profile after device reset (Table 5-1). -/
def Profile.reset : Profile := ⟨false, 0, 1, .drop, 1⟩

/-- The pause record of a lane (Table 5-2). A remaining time of 0 stands only between the microsecond
tick that reaches it and the PAUSE_EXPIRY that takes it (R99; DESIGN CHOICE, log 5). -/
inductive PauseRecord where
  | idle
  | pausing (remaining : Nat) (quantum : Word16)
deriving DecidableEq, Repr

/-! ### Counter sets (Chapter 6) -/

/-- The state of a counter set with the field Table 6-1 gives it. -/
inductive SetState where
  | free
  | attached (owner : Pair)
  | orphaned (retiredKey : Key)
deriving DecidableEq, Repr

/-- The five counts of a counter set (Table 6-1). -/
structure Counts where
  srcFrames : Nat
  srcBytes : Nat
  srcErrors : Nat
  dstFrames : Nat
  meterDrops : Nat
deriving DecidableEq, Repr

/-- Five counts at zero. -/
def Counts.zero : Counts := ⟨0, 0, 0, 0, 0⟩

/-- A counter set (R102). -/
structure CounterSet where
  state : SetState
  counts : Counts
deriving DecidableEq, Repr

/-- A counter set after device reset: FREE with zero counts (R114). -/
def CounterSet.reset : CounterSet := ⟨.free, .zero⟩

/-! ### Verdicts and lane messages (Chapters 3, 7 and 11) -/

/-- The action of a verdict (Table 11-3). -/
inductive Action where
  | forward
  | flood
  | drop
deriving DecidableEq, Repr

/-- The reason of a verdict (Table 3-1). -/
inductive Reason where
  | none
  | broadcast
  | unknownUnicast
  | unknownGroup
  | newDest
  | domainOff
  | notMember
  | badSource
  | sourceDenied
  | pinnedElsewhere
  | moveFrozen
  | meter
  | destDenied
  | sameLane
  | homeOutside
  | unknownDropped
  | emptySet
deriving DecidableEq, Repr

/-- A verdict: an action, a port set and a reason (section 3.7). -/
structure Verdict where
  action : Action
  ports : LaneSet
  reason : Reason
deriving DecidableEq, Repr

/-- The reason of a NACK (R130). -/
inductive NackReason where
  | late
  | unknown
deriving DecidableEq, Repr

/-- The reason of a FAULT (Table 11-3). -/
inductive FaultReason where
  | check
  | type
  | length
  | tagBusy
  | notReady
  | held
deriving DecidableEq, Repr

/-- A message the part sends on a lane (Table 11-2, R126). -/
inductive LaneMessage where
  | verdict (tag : TagNo) (verdict : Verdict)
  | nack (tag : TagNo) (reason : NackReason)
  | pause (quantum : Word16)
  | resume
  | fault (reason : FaultReason)
  | restartAck
deriving DecidableEq, Repr

/-! ### Lanes (Chapter 7) -/

/-- The state of a lane (R115). -/
inductive LaneState where
  | down
  | waiting
  | ready
  | held
deriving DecidableEq, Repr

/-- What a tag remembers of a frame between its verdict and its settle (R63, R127). -/
structure TagRecord where
  source : Option Pair
  created : Bool
  destination : Option Pair
  verdictTime : Time
deriving DecidableEq, Repr

/-- A settle timer (R128). `ranOut` stands from the millisecond tick at which the timer runs out until
the SETTLE_TIMEOUT, or another happening that reaches the tag, is taken (R132; DESIGN CHOICE, log 5). -/
inductive Timer where
  | stopped
  | running (deadline : Time)
  | ranOut
deriving DecidableEq, Repr

/-- A tag with what Table 7-3 says it holds in its state. -/
inductive Tag where
  | free (lateMemo : Bool)
  | queued
  | settling (record : TagRecord) (timer : Timer)
  | closing (record : TagRecord)
deriving DecidableEq, Repr

/-- A tag after device reset: FREE, late memo no (R139). -/
def Tag.reset : Tag := .free false

/-- An item of a lane's work queue (R133). -/
inductive Item where
  | lookup (tag : TagNo) (domain : Byte) (destination source : Address)
  | settle (tag : TagNo) (good : Bool) (byteCount : Word16)
deriving DecidableEq, Repr

/-- A lane's item in hand, with the mark a close-out makes on it (R122, R133). -/
structure InHand where
  item : Item
  cancelled : Bool
deriving DecidableEq, Repr

/-- The sixteen lane statistics, in the order of Table 7-5. -/
structure LaneStats where
  lookups : Nat
  forwards : Nat
  floods : Nat
  drops : Nat
  learns : Nat
  learnFailures : Nat
  moves : Nat
  abandonedTags : Nat
  orphanedTags : Nat
  lateSettles : Nat
  unknownSettles : Nat
  lostCharges : Nat
  faults : Nat
  pauseSent : Nat
  pauseAbsorbed : Nat
  pauseSuppressed : Nat
deriving DecidableEq, Repr

/-- The lane statistics after device reset (R138). -/
def LaneStats.zero : LaneStats := ⟨0, 0, 0, 0, 0, 0, 0, 0, 0, 0, 0, 0, 0, 0, 0, 0⟩

/-- One Lane Interface. `receiveOpen` says that a frame mark has arrived since the lane left DOWN, so
that a message stands open (R182); `transmitting` is the message whose transmission has begun, and
`waiting` the messages decided and not yet begun, oldest first (R126). -/
structure Lane where
  state : LaneState
  learning : Bool
  pauseOn : Bool
  settleTimeout : Byte
  receiveOpen : Bool
  tags : Store Tag
  queue : List Item
  inHand : Option InHand
  pause : PauseRecord
  transmitting : Option LaneMessage
  waiting : List LaneMessage
  stats : LaneStats
deriving DecidableEq, Repr

/-- A lane after device reset (R139). -/
def Lane.reset : Lane :=
  ⟨.down, false, false, 0, false, [], [], none, .idle, none, [], .zero⟩

/-! ### The Table Engine (section 1.10) -/

/-- What a resolve is granted on: the inputs of R37 and its one copy of the domain record (R27). -/
structure ResolveInput where
  lane : LaneNo
  tag : TagNo
  domain : Byte
  destination : Address
  source : Address
  copy : Domain
deriving DecidableEq, Repr

/-- What a resolve hands back to its lane: the verdict and the tag record but for the verdict time (R63). -/
structure ResolveResult where
  verdict : Verdict
  source : Option Pair
  created : Bool
  destination : Option Pair
deriving DecidableEq, Repr

/-- What a settle operation is granted on: the tag record of the CLOSING tag and the item (R135). -/
structure SettleInput where
  lane : LaneNo
  tag : TagNo
  record : TagRecord
  good : Bool
  byteCount : Word16
deriving DecidableEq, Repr

/-- The Table Engine: idle, or the one table operation in progress (R20, R23). After its effects are
made (`resolved`, `settled`) an operation keeps the occupancy counts from before it, which the
readouts show until it ends (R14). A READ_TABLE_STATS holds the statistics as they stood at its grant
(R19); any other host command holds nothing of its own. -/
inductive Engine where
  | idle
  | resolving (input : ResolveInput)
  | resolved (input : ResolveInput) (result : ResolveResult) (before : Occupancy)
  | settling (input : SettleInput)
  | settled (lane : LaneNo) (tag : TagNo) (before : Occupancy)
  | command
  | readingStats (atGrant : TableStats)
  | sweepStep
deriving DecidableEq, Repr

/-! ### The Command Unit (Chapters 8 and 9) -/

/-- A command block: the 16 submission words, 0 where none is listed (R141, R185). -/
abbrev Block := Store Word16

/-- A status code (Table 8-2). -/
inductive Status where
  | ok
  | okNoCounter
  | alreadyExists
  | notFound
  | noRoom
  | staleRef
  | badArg
  | notEmpty
  | sweepRunning
  | noSet
  | aborted
deriving DecidableEq, Repr

/-- A result: the command code, the status and the value words 1, 2, 3 and onward (section 11.6). -/
structure Result where
  code : Byte
  status : Status
  values : List Word16
deriving DecidableEq, Repr

/-- A command slot with what Table 8-1 says it holds in its state. -/
inductive Slot where
  | empty
  | pending (block : Block)
  | running (block : Block)
  | done (block : Block) (result : Result)
deriving DecidableEq, Repr

/-- The progress of the RUNNING walk (R162). The selector is held as the four operand words, which are
tested at the first grant (R164). -/
structure Walk where
  domain : Word16
  lane : Word16
  cls : Word16
  kind : Word16
  startRef : Word16
  cursor : Nat
  stepsDone : Nat
  tally : Nat
  aborted : Bool
deriving DecidableEq, Repr

/-- The submit status word (R173). -/
inductive SubmitStatus where
  | none
  | slot (n : SlotNo)
  | full
deriving DecidableEq, Repr

/-! ### The whole part -/

/-- The state of the JL7208. -/
structure State where
  /-- The commands waiting to be taken, first in, first out (the model's own). -/
  pending : List Instr
  /-- RESET# stands low (R181, R187). -/
  resetLow : Bool
  /-- The word the latest host read put on D15–D0: the model's own field, reset value 0 (DESIGN CHOICE,
  log 8). -/
  readData : Word16
  -- Station table
  entries : Store Entry
  occupancy : Occupancy
  hashSelect : Fin 3
  spillMark : Nat
  tableStats : TableStats
  /-- The arbiter's pointer: 0 to 7 name L0 to L7, 8 the Command Unit, 9 the Aging Sweep (R22). -/
  pointer : Fin 10
  engine : Engine
  -- Domain Table, Meter Unit, Counter Pool
  domains : Store Domain
  profiles : Store Profile
  counterSets : Store CounterSet
  autoReclaim : Bool
  orphanMark : Nat
  orphaned : Nat
  -- Aging Sweep
  agePeriod : Nat
  /-- `none` when stopped; a remaining time of 0 stands only between the millisecond tick that reaches
  it and the AGE_TICK that takes it (R71; DESIGN CHOICE, log 5). -/
  ageTimer : Option Nat
  sweepRunning : Bool
  sweepCursor : Nat
  -- Lane Interfaces
  lanes : Store Lane
  -- Command Unit
  slots : Store Slot
  order : List SlotNo
  walk : Option Walk
  -- Host Window
  submission : Block
  submitStatus : SubmitStatus
  irqPending : Word16
  irqEnable : Word16
  highCapture : Word16
  -- Timebase
  /-- The divider last stored. -/
  divider : Byte
  /-- The divider under which the microsecond tick in progress completes (R180); its reset value is the
  divider's (DESIGN CHOICE, log 15). -/
  tickDivider : Byte
  /-- 0 to 999; 1000 stands only between the microsecond tick that reaches it and the MILLISECOND_TICK
  that returns it to 0 (R180; DESIGN CHOICE, log 5). -/
  subMs : Nat
  ms : Time
deriving DecidableEq, Repr

/-- The part right after device reset (R24, R26, R84, R86, R114, R139, R148, R180, R181), with no
command waiting. -/
def State.reset : State where
  pending := []
  resetLow := false
  readData := 0
  entries := []
  occupancy := ⟨0, 0, Config.allRefs⟩
  hashSelect := 0
  spillMark := Config.spillMarkReset
  tableStats := .zero
  pointer := 0
  engine := .idle
  domains := []
  profiles := []
  counterSets := []
  autoReclaim := false
  orphanMark := 0
  orphaned := 0
  agePeriod := 0
  ageTimer := none
  sweepRunning := false
  sweepCursor := 0
  lanes := []
  slots := []
  order := []
  walk := none
  submission := []
  submitStatus := .none
  irqPending := 0
  irqEnable := 0
  highCapture := 0
  divider := Config.dividerReset
  -- DESIGN CHOICE (log 15): the tick in progress at device reset completes under the divider's reset value.
  tickDivider := Config.dividerReset
  subMs := 0
  ms := 0

/-- The reasons the part could stop with a fault. There is none: the manual "gives the behaviour of
the part under every programming and in every case the part can meet" (00_scope.md), so the type
has no constructor and no step ends in a fault (DEDUCED, log 13). Safe: a stop that cannot happen claims
nothing. -/
inductive Fault where
deriving DecidableEq, Repr

/-- The reasons the model could refuse a command. -/
inductive Refusal where
  /-- Raised by an arm of `exec` whose command has no meaning yet; no arm raises it now. Safe: the
  model stops where the part goes on. -/
  | notModelled (mnemonic : String)
deriving DecidableEq, Repr

end Sys2Proof.Machine
end

