-- ==== Sys2Proof/Machine/Ops.lean ====
section
/-!
DEFINITION. The named operations over the stores and the state: reading and writing one record of a
table, one field group of a lane, one tag, one slot; adding to a statistic; and the outcome every
meaning ends in. Laws about them stand in Sys2Proof/Laws/Stores.lean and Sys2Proof/Laws/State.lean.
-/

namespace Sys2Proof.Machine

/-! ### Stores -/

/-- The record numbered `n`; `d`, the reset value, where none is listed. -/
def fetch {α : Type} (d : α) : Store α → Nat → α
  | [], _ => d
  | (k, v) :: rest, n => if k = n then v else fetch d rest n

/-- `m` with the record numbered `n` listed as `v`, in order of number. -/
def insertAt {α : Type} : Store α → Nat → α → Store α
  | [], n, v => [(n, v)]
  | (k, w) :: rest, n, v =>
    if n < k then (n, v) :: (k, w) :: rest
    else if n = k then (n, v) :: rest
    else (k, w) :: insertAt rest n v

/-- `m` with no record numbered `n` listed. -/
def eraseAt {α : Type} (m : Store α) (n : Nat) : Store α := m.filter fun p => p.1 != n

/-- `m` with the record numbered `n` now `v`; the canonical form is kept by listing no record that
stands at its reset value `d`. -/
def put {α : Type} [DecidableEq α] (d : α) (m : Store α) (n : Nat) (v : α) : Store α :=
  if v = d then eraseAt m n else insertAt m n v

/-- The canonical form of a store: numbers strictly rising, and no record equal to the reset value `d`,
so that equal tables are equal stores. -/
abbrev canonical {α : Type} (d : α) (m : Store α) : Prop :=
  m.Pairwise (fun p q => p.1 < q.1) ∧ ∀ p ∈ m, p.2 ≠ d

/-! ### Station table, Domain Table, Meter Unit, Counter Pool -/

/-- The entry at a ref (R4). -/
def entryAt (s : State) (ref : Nat) : Entry := fetch .reset s.entries ref

/-- Writes the entry at a ref. -/
def setEntry (ref : Nat) (e : Entry) (s : State) : State :=
  { s with entries := put .reset s.entries ref e }

/-- Writes the fields of an occupied entry, keeping its generation. -/
def setOccupant (ref : Nat) (o : Occupant) (s : State) : State :=
  setEntry ref ⟨(entryAt s ref).generation, some o⟩ s

/-- The pair (ref, generation) that names the present lifetime of a ref (R5). -/
def pairAt (s : State) (ref : Nat) : Pair := ⟨ref, (entryAt s ref).generation⟩

/-- A pair is current when its ref is occupied under its generation, and stale otherwise (R5). -/
def current (s : State) (p : Pair) : Bool :=
  (entryAt s p.ref).occupant.isSome && (entryAt s p.ref).generation == p.generation

/-- The record of a domain (R25). -/
def domainAt (s : State) (d : Byte) : Domain := fetch .reset s.domains d.toNat

/-- Writes the record of a domain. -/
def setDomainAt (d : Byte) (r : Domain) (s : State) : State :=
  { s with domains := put .reset s.domains d.toNat r }

/-- A meter profile (R86). -/
def profileAt (s : State) (p : ProfileNo) : Profile := fetch .reset s.profiles p.val

/-- Writes a meter profile. -/
def setProfileAt (p : ProfileNo) (r : Profile) (s : State) : State :=
  { s with profiles := put .reset s.profiles p.val r }

/-- A counter set (R102). -/
def counterSetAt (s : State) (n : Nat) : CounterSet := fetch .reset s.counterSets n

/-- Writes a counter set. -/
def setCounterSetAt (n : Nat) (c : CounterSet) (s : State) : State :=
  { s with counterSets := put .reset s.counterSets n c }

/-- Changes the table statistics. -/
def onTableStats (f : TableStats → TableStats) (s : State) : State :=
  { s with tableStats := f s.tableStats }

/-! ### Lanes -/

/-- A lane. -/
def laneAt (s : State) (l : LaneNo) : Lane := fetch .reset s.lanes l.val

/-- Writes a lane. -/
def setLane (l : LaneNo) (x : Lane) (s : State) : State :=
  { s with lanes := put .reset s.lanes l.val x }

/-- Changes a lane. -/
def onLane (l : LaneNo) (f : Lane → Lane) (s : State) : State := setLane l (f (laneAt s l)) s

/-- Changes a lane's statistics. -/
def onLaneStats (l : LaneNo) (f : LaneStats → LaneStats) (s : State) : State :=
  onLane l (fun x => { x with stats := f x.stats }) s

/-- Changes every lane, L0 to L7, alike. -/
def onEveryLane (f : Lane → Lane) (s : State) : State :=
  (List.finRange 8).foldl (fun t l => onLane l f t) s

/-- A tag of a lane (R127). -/
def tagOf (x : Lane) (t : TagNo) : Tag := fetch .reset x.tags t.val

/-- Writes a tag of a lane. -/
def setTag (t : TagNo) (v : Tag) (x : Lane) : Lane :=
  { x with tags := put .reset x.tags t.val v }

/-- How many of a lane's sixteen tags satisfy `p`. -/
def countTags (p : Tag → Bool) (x : Lane) : Nat :=
  ((List.finRange 16).filter fun t => p (tagOf x t)).length

/-! ### Command slots and window words -/

/-- A command slot (R140). -/
def slotAt (s : State) (n : SlotNo) : Slot := fetch .empty s.slots n.val

/-- Writes a command slot. -/
def setSlot (n : SlotNo) (x : Slot) (s : State) : State :=
  { s with slots := put .empty s.slots n.val x }

/-- The slots whose state satisfies `p`, lowest number first. -/
def slotsWhere (p : Slot → Bool) (s : State) : List SlotNo :=
  (List.finRange 4).filter fun n => p (slotAt s n)

/-- A word of a command block or of the submission area (R173). -/
def wordAt (b : Block) (n : Nat) : Word16 := fetch 0 b n

/-- Writes a word of the submission area. -/
def setWord (n : Nat) (v : Word16) (b : Block) : Block := put 0 b n v

/-! ### The outcome of a command -/

/-- The outcome of a command that makes the change `f`. While the RESET# pin stays low "no block takes
any happening" and the command changes nothing (R181). -/
def act (f : State → State) (s : State) : Host.Outcome State Fault Refusal :=
  .next (if s.resetLow then s else f s)

end Sys2Proof.Machine
end

