-- ==== Sys2Proof/Machine/Formats.lean ====
section
/-!
DEFINITION. Chapter 11's formats and the address arithmetic of Chapter 1: address classes (R1), the
hash of a key and its bucket (R6, R7), the check byte (R184), the bytes of the lane messages in both
directions (R183, Table 11-2), and how the receive side reads what stands between two frame marks
(R121 tests 3 to 6, R182).
-/

namespace Sys2Proof.Machine

/-! ### Addresses and the hash -/

/-- Byte `i` of an address, byte 0 the first transmitted (section 1.1). -/
def addressByte (a : Address) (i : Nat) : Byte := (a >>> (8 * (5 - i))).setWidth 8

/-- The bytes of an address in the order they are carried (R183). -/
def addressBytes (a : Address) : List Byte :=
  [addressByte a 0, addressByte a 1, addressByte a 2, addressByte a 3, addressByte a 4, addressByte a 5]

/-- An address from its bytes 0 to 5. -/
def addressOf (b0 b1 b2 b3 b4 b5 : Byte) : Address := b0 ++ b1 ++ b2 ++ b3 ++ b4 ++ b5

/-- The class of an address (R1). -/
inductive AddressClass where
  | broadcast
  | group
  | unicast
deriving DecidableEq, Repr

/-- Broadcast when all 48 bits are one; otherwise group or unicast by the least significant bit of
byte 0 (R1). -/
def addressClass (a : Address) : AddressClass :=
  if a = BitVec.allOnes 48 then .broadcast
  else if (addressByte a 0).getLsbD 0 then .group
  else .unicast

/-- One bit into the hash register (R6 step 4). -/
def crc32Bit (r : BitVec 32) (bit : Bool) : BitVec 32 :=
  if r.getLsbD 0 != bit then (r >>> 1) ^^^ 0xEDB88320#32 else r >>> 1

/-- One byte into the hash register, least significant bit first (R6 step 3). -/
def crc32Byte (r : BitVec 32) (b : Byte) : BitVec 32 :=
  [0, 1, 2, 3, 4, 5, 6, 7].foldl (fun r i => crc32Bit r (b.getLsbD i)) r

/-- The CRC-32 of a run of bytes: the register starts with every bit one and is inverted after the last
bit (R6 steps 1 and 5). -/
def crc32 (bytes : List Byte) : BitVec 32 := ~~~(bytes.foldl crc32Byte (BitVec.allOnes 32))

/-- The hash of a key: over the domain and then address bytes 0 to 5 (R6). -/
def hashOf (k : Key) : BitVec 32 := crc32 (k.domain :: addressBytes k.address)

/-- The bucket of a key: the eleven hash bits the hash select names (R7). -/
def bucketOf (select : Fin 3) (k : Key) : Nat :=
  ((hashOf k >>> ([0, 11, 21].getD select.val 0)).setWidth 11).toNat

/-! ### The check byte -/

/-- One bit into the check register (R184). -/
def crc8Bit (r : Byte) (bit : Bool) : Byte :=
  if r.getLsbD 7 != bit then (r <<< 1) ^^^ 0x07#8 else r <<< 1

/-- One byte into the check register, most significant bit first (R184). -/
def crc8Byte (r : Byte) (b : Byte) : Byte :=
  [7, 6, 5, 4, 3, 2, 1, 0].foldl (fun r i => crc8Bit r (b.getLsbD i)) r

/-- The check byte over the bytes before it; the register starts at 0 and is not inverted (R184). -/
def crc8 (bytes : List Byte) : Byte := bytes.foldl crc8Byte 0

/-- A message's bytes closed by their check byte. -/
def withCheck (bytes : List Byte) : List Byte := bytes ++ [crc8 bytes]

/-! ### Numbers on the lane -/

/-- The two bytes of a 16-bit number, most significant first (R183). -/
def bytesOf16 (v : Word16) : List Byte := [(v >>> 8).setWidth 8, v.setWidth 8]

/-- A 16-bit number from its two bytes. -/
def word16Of (high low : Byte) : Word16 := high ++ low

/-- The tag a tag byte names: bits 3–0; bits 7–4 are not examined (R183). -/
def tagOfByte (b : Byte) : TagNo := (b.setWidth 4).toFin

/-- The tag byte the part sends: the tag in bits 3–0, bits 7–4 zero (R183). -/
def byteOfTag (t : TagNo) : Byte := BitVec.ofNat 8 t.val

/-! ### Messages from a port controller -/

/-- A message from a port controller, with its fields as carried (Table 11-2). -/
inductive PortMessage where
  | lookup (tag domain : Byte) (destination source : Address)
  | settle (tag outcome : Byte) (byteCount : Word16)
  | restart
deriving DecidableEq, Repr

/-- What stands between two frame marks, as the receive side reads it before it looks at the lane's
state (R121 tests 3 to 6, R182). -/
inductive Received where
  /-- No byte: no message, and nothing is judged. -/
  | nothing
  /-- The message fails a test, which names the lane fault. -/
  | malformed (reason : FaultReason)
  /-- A LOOKUP, SETTLE or RESTART of its type's length with a good check byte. -/
  | message (m : PortMessage)
deriving DecidableEq, Repr

/-- The bytes of a message, check byte included (Table 11-2). -/
def portMessageBytes : PortMessage → List Byte
  | .lookup tag domain destination source =>
    withCheck (0x11#8 :: tag :: domain :: (addressBytes destination ++ addressBytes source))
  | .settle tag outcome byteCount => withCheck (0x12#8 :: tag :: outcome :: bytesOf16 byteCount)
  | .restart => withCheck [0x1E#8]

/-- The data nibbles of a run of bytes: within each byte the low nibble first (R183). -/
def nibblesOf : List Byte → List Nibble
  | [] => []
  | b :: rest => b.setWidth 4 :: (b >>> 4).setWidth 4 :: nibblesOf rest

/-- Nibbles paired into bytes in order of arrival, low nibble first (R182, R183). -/
def bytesOfNibbles : List Nibble → List Byte
  | low :: high :: rest => (high ++ low) :: bytesOfNibbles rest
  | _ => []

/-- What a message from a port controller places between its frame marks. -/
def portMessageBody (m : PortMessage) : List Symbol :=
  (nibblesOf (portMessageBytes m)).map .nibble

/-- The data nibbles among the symbols received; idles are skipped and a coding error is not stored
(R182). -/
def storedNibbles : List Symbol → List Nibble
  | [] => []
  | .nibble v :: rest => v :: storedNibbles rest
  | _ :: rest => storedNibbles rest

/-- The type and length tests on a message whose check byte is good (R121 tests 5 and 6). -/
def readMessage : List Byte → Received
  | 0x11#8 :: rest =>
    match rest with
    | [tag, domain, d0, d1, d2, d3, d4, d5, s0, s1, s2, s3, s4, s5, _] =>
      .message (.lookup tag domain (addressOf d0 d1 d2 d3 d4 d5) (addressOf s0 s1 s2 s3 s4 s5))
    | _ => .malformed .length
  | 0x12#8 :: rest =>
    match rest with
    | [tag, outcome, high, low, _] => .message (.settle tag outcome (word16Of high low))
    | _ => .malformed .length
  | 0x1E#8 :: rest =>
    match rest with
    | [_] => .message .restart
    | _ => .malformed .length
  | _ => .malformed .type

/-- The check test (R121 test 4): the last byte equals the check over the bytes before it, and no
coding error fell in the message (R182). -/
def readChecked (spoilt : Bool) (bytes : List Byte) : Received :=
  if spoilt || bytes.getLast? != some (crc8 bytes.dropLast) then .malformed .check
  else readMessage bytes

/-- What stands between two frame marks, read as R182 and R121 tests 3 to 6 give: no nibble is no
message; an odd number of nibbles, or a length outside 2 to 16 bytes, is a LENGTH fault. -/
def readBody (body : List Symbol) : Received :=
  let nibbles := storedNibbles body
  let bytes := bytesOfNibbles nibbles
  if nibbles.isEmpty then .nothing
  else if nibbles.length % 2 = 1 || bytes.length < 2 || 16 < bytes.length then .malformed .length
  else readChecked (body.contains .codingError) bytes

/-! ### Messages the part sends -/

/-- The code of an action (Table 11-3). -/
def actionCode : Action → Byte
  | .forward => 0x01
  | .flood => 0x02
  | .drop => 0x03

/-- The code of a verdict reason (Table 11-3). -/
def reasonCode : Reason → Byte
  | .none => 0x00
  | .broadcast => 0x01
  | .unknownUnicast => 0x02
  | .unknownGroup => 0x03
  | .newDest => 0x04
  | .domainOff => 0x10
  | .notMember => 0x11
  | .badSource => 0x12
  | .sourceDenied => 0x13
  | .pinnedElsewhere => 0x14
  | .moveFrozen => 0x15
  | .meter => 0x16
  | .destDenied => 0x17
  | .sameLane => 0x18
  | .homeOutside => 0x19
  | .unknownDropped => 0x1A
  | .emptySet => 0x1B

/-- The code of a NACK reason (Table 11-3). -/
def nackCode : NackReason → Byte
  | .late => 0x01
  | .unknown => 0x02

/-- The code of a FAULT reason (Table 11-3). -/
def faultCode : FaultReason → Byte
  | .check => 0x01
  | .type => 0x02
  | .length => 0x03
  | .tagBusy => 0x04
  | .notReady => 0x05
  | .held => 0x06

/-- The bytes of a message the part sends, check byte included (Table 11-2). -/
def laneMessageBytes : LaneMessage → List Byte
  | .verdict t v =>
    withCheck [0x21#8, byteOfTag t, actionCode v.action, v.ports, reasonCode v.reason]
  | .nack t r => withCheck [0x22#8, byteOfTag t, nackCode r]
  | .pause q => withCheck (0x23#8 :: bytesOf16 q)
  | .resume => withCheck [0x24#8]
  | .fault r => withCheck [0x2E#8, faultCode r]
  | .restartAck => withCheck [0x2F#8]

/-- The nibbles the transmit side sends between the two frame marks of a message (R182, R183). -/
def laneMessageNibbles (m : LaneMessage) : List Nibble := nibblesOf (laneMessageBytes m)

/-! ### Symbols on the link -/

/-- One symbol on a lane's lines: the level of the control line (true is high) and the data lines
(Table 11-1). -/
structure LinkSymbol where
  control : Bool
  data : Nibble
deriving DecidableEq, Repr

/-- A data nibble on the link (Table 11-1). -/
def linkNibble (v : Nibble) : LinkSymbol := ⟨false, v⟩

/-- The frame mark on the link (Table 11-1). -/
def frameMark : LinkSymbol := ⟨true, 0x1⟩

/-- The idle symbol on the link (Table 11-1). -/
def linkIdle : LinkSymbol := ⟨true, 0x0⟩

/-- What the receive side takes a symbol on its lines for; `none` is a frame mark (Table 11-1). -/
def linkReads (x : LinkSymbol) : Option Symbol :=
  if x.control = false then some (.nibble x.data)
  else if x.data = 0x1 then none
  else if x.data = 0x0 then some .idle
  else some .codingError

/-- What the transmit side sends for a message: a frame mark, the message's nibbles and a closing frame
mark (R182). -/
def laneMessageFrame (m : LaneMessage) : List LinkSymbol :=
  frameMark :: (laneMessageNibbles m).map linkNibble ++ [frameMark]

/-- What a lane's transmit lines LnTXK and LnTXD carry: the frame of the message in transmission, and idle
symbols when there is none (R182) and throughout the time that RESET# is low (R187). The symbols of one
frame take no modelled time (DESIGN CHOICE, log 6). -/
def transmitLines (s : State) (l : LaneNo) : List LinkSymbol :=
  if s.resetLow then [linkIdle]
  else
    match (laneAt s l).transmitting with
    | some m => laneMessageFrame m
    | none => [linkIdle]

end Sys2Proof.Machine
end

