-- ==== Sys2Proof/Machine/Operands.lean ====
section
/-!
DEFINITION. The operand words of the command blocks (R185, Table 11-5): each field's reading, `none`
when the word is out of range or holds a code its field does not have, and the words in which values
are returned (section 11.6). A rule that does not examine a word does not read it here either.
-/

namespace Sys2Proof.Machine

/-- The command code of a block: word 0 bits 7–0 (R185). -/
def codeOf (b : Block) : Byte := (wordAt b 0).setWidth 8

/-- A bit of the selection or option word, word 1 (R185). -/
def selected (b : Block) (k : Nat) : Bool := (wordAt b 1).getLsbD k

/-! ### Single fields -/

/-- Codes 0 and 1 standing for two names (R185). -/
def eitherOf {α : Type} (zero one : α) (w : Word16) : Option α :=
  if w = 0 then some zero else if w = 1 then some one else none

/-- An on/off or yes/no word. -/
def onOffOf : Word16 → Option Bool := eitherOf false true
/-- A policy word: ALLOW or DENY. -/
def policyOf : Word16 → Option Policy := eitherOf .allow .deny
/-- An unknown-destination word: FLOOD or DROP. -/
def unknownOf : Word16 → Option UnknownPolicy := eitherOf .flood .drop
/-- A meter action word: DROP or PAUSE. -/
def meterActionOf : Word16 → Option MeterAction := eitherOf .drop .pause

/-- A number below `n`. -/
def belowOf (n : Nat) (w : Word16) : Option (Fin n) :=
  if h : w.toNat < n then some ⟨w.toNat, h⟩ else none

/-- A lane number, 0 to 7. -/
def laneOf : Word16 → Option LaneNo := belowOf 8

/-- A domain number, 0 to 255. -/
def domainOf (w : Word16) : Option Byte := if w.toNat < 256 then some (w.setWidth 8) else none

/-- A ref, 0 to 8255 (R4). -/
def refOf (w : Word16) : Option Nat := if w.toNat < Config.allRefs then some w.toNat else none

/-- A counter set number, 0 to 1023 (R102). -/
def counterSetOf (w : Word16) : Option Nat :=
  if w.toNat < Config.counterSets then some w.toNat else none

/-- A profile number 0 to 31, or NONE. -/
def profileOrNoneOf (w : Word16) : Option (Option ProfileNo) :=
  if w = Config.noneCode then some none else (belowOf 32 w).map some

/-- A member set: bits 7–0, bits 15–8 not examined (R185). -/
def membersOf (w : Word16) : LaneSet := w.setWidth 8

/-- A generation: bits 7–0 of word 3 (R185). -/
def generationOf (b : Block) : Byte := (wordAt b 3).setWidth 8

/-- The address of the key in words 5 to 7, the earlier byte in bits 15–8 (R185). -/
def addressOfBlock (b : Block) : Address := wordAt b 5 ++ wordAt b 6 ++ wordAt b 7

/-- The key in words 4 to 7; `none` for a domain above 255. -/
def keyOf (b : Block) : Option Key :=
  (domainOf (wordAt b 4)).map fun d => ⟨d, addressOfBlock b⟩

/-- The key of REMOVE_KEY and FIND: a domain above 255 or a broadcast address is refused (R158, R159). -/
def searchableKeyOf (b : Block) : Option Key :=
  (keyOf b).bind fun k => if addressClass k.address = .broadcast then none else some k

/-! ### Counter requests -/

/-- What a table operation asks of the Counter Pool (R103). -/
inductive SetRequest where
  | any
  | named (n : Nat)
deriving DecidableEq, Repr

/-- A counter set number or ANY (ATTACH). -/
def setOrAnyOf (w : Word16) : Option SetRequest :=
  if w = Config.anyCode then some .any else (counterSetOf w).map .named

/-- A counter request: a set number, ANY or NONE (INSERT). -/
def counterRequestOf (w : Word16) : Option (Option SetRequest) :=
  if w = Config.noneCode then some none else (setOrAnyOf w).map some

/-! ### INSERT -/

/-- The operands of INSERT that test 1 of R151 has passed. `isGroup` and `isStatic` are the kind and
class as named; the home lane is `some` for kind UNICAST alone, since GROUP does not examine it. -/
structure InsertOperands where
  key : Key
  isGroup : Bool
  isStatic : Bool
  home : Option LaneNo
  members : LaneSet
  sourcePolicy : Policy
  destinationPolicy : Policy
  profile : Option ProfileNo
  counter : Option SetRequest
deriving DecidableEq, Repr

/-- The home lane of an INSERT: read for kind UNICAST alone (R151 test 1). -/
def insertHome (isGroup : Bool) (w : Word16) : Option (Option LaneNo) :=
  if isGroup then some none else (laneOf w).map some

/-- The operands of INSERT; `none` where test 1 of R151 refuses one. -/
def insertOperands (b : Block) : Option InsertOperands := do
  let key ← keyOf b
  let isGroup ← onOffOf (wordAt b 8)
  let isStatic ← onOffOf (wordAt b 9)
  let home ← insertHome isGroup (wordAt b 10)
  let sourcePolicy ← policyOf (wordAt b 12)
  let destinationPolicy ← policyOf (wordAt b 13)
  let profile ← profileOrNoneOf (wordAt b 14)
  let counter ← counterRequestOf (wordAt b 2)
  some ⟨key, isGroup, isStatic, home, membersOf (wordAt b 11), sourcePolicy, destinationPolicy,
    profile, counter⟩

/-- The place an INSERT fills, by its kind; `none` where tests 2 to 5 of R151 refuse it: a broadcast
address, a kind that is not the address class's, GROUP with LEARNED, GROUP with an empty member set. -/
def insertPlace (o : InsertOperands) : Option Place :=
  match addressClass o.key.address, o.isGroup, o.home with
  | .unicast, false, some home => some (.unicast home)
  | .group, true, _ => if o.isStatic && o.members != 0 then some (.group o.members) else none
  | _, _, _ => none

/-! ### UPDATE -/

/-- The changes an UPDATE names, each value `some` when its change is named (R154). -/
structure UpdateChanges where
  pin : Bool
  unpin : Bool
  home : Option LaneNo
  members : Option LaneSet
  sourcePolicy : Option Policy
  destinationPolicy : Option Policy
  meter : Option (Option ProfileNo)
  unfreeze : Bool
  clearMoves : Bool
deriving DecidableEq, Repr

/-- A value for a change that may be named: read only when it is (R154). -/
def whenNamed {α : Type} (named : Bool) (value : Option α) : Option (Option α) :=
  if named then value.map some else some none

/-- A member set that is not empty (R154 test 1). -/
def nonEmptyOf (w : Word16) : Option LaneSet := if membersOf w = 0 then none else some (membersOf w)

/-- The changes an UPDATE names; `none` where test 1 of R154 refuses one. The ref is tested apart. -/
def updateChanges (b : Block) : Option UpdateChanges :=
  if selected b 0 && selected b 1 then none
  else do
    let home ← whenNamed (selected b 2) (laneOf (wordAt b 10))
    let members ← whenNamed (selected b 3) (nonEmptyOf (wordAt b 11))
    let sourcePolicy ← whenNamed (selected b 4) (policyOf (wordAt b 12))
    let destinationPolicy ← whenNamed (selected b 5) (policyOf (wordAt b 13))
    let meter ← whenNamed (selected b 6) (profileOrNoneOf (wordAt b 14))
    some ⟨selected b 0, selected b 1, home, members, sourcePolicy, destinationPolicy, meter,
      selected b 7, selected b 8⟩

/-! ### Walk selectors -/

/-- The class part of a selector (R163). -/
inductive WalkClass where
  | learned
  | pinned
  | both
deriving DecidableEq, Repr

/-- The kind part of a selector (R163). -/
inductive WalkKind where
  | unicast
  | group
  | both
deriving DecidableEq, Repr

/-- A walk's selector (R163); `none` in the domain or lane part is ANY. -/
structure Selector where
  domain : Option Byte
  lane : Option LaneNo
  cls : WalkClass
  kind : WalkKind
deriving DecidableEq, Repr

/-- A value or ANY (R185). -/
def orAny {α : Type} (read : Word16 → Option α) (w : Word16) : Option (Option α) :=
  if w = Config.anyCode then some none else (read w).map some

/-- Codes 0, 1 and 2 standing for three names (R185). -/
def threeOf {α : Type} (zero one two : α) (w : Word16) : Option α :=
  if w = 2 then some two else eitherOf zero one w

/-- The selector of a walk, from the operand words it started with; `none` where R164 refuses one. -/
def selectorOf (w : Walk) : Option Selector := do
  let domain ← orAny domainOf w.domain
  let lane ← orAny laneOf w.lane
  let cls ← threeOf .learned .pinned .both w.cls
  let kind ← threeOf .unicast .group .both w.kind
  some ⟨domain, lane, cls, kind⟩

/-! ### Words in which values are returned (section 11.6) -/

/-- A number in one word. -/
def word (n : Nat) : Word16 := BitVec.ofNat 16 n

/-- A bit standing for a yes or an on. -/
def flagWord (b : Bool) : Word16 := if b then 1 else 0

/-- A 32-bit value, high word first. -/
def words32 (n : Nat) : List Word16 := [word (n / 2 ^ 16), word n]

/-- A 48-bit value, high word first. -/
def words48 (n : Nat) : List Word16 := [word (n / 2 ^ 32), word (n / 2 ^ 16), word n]

/-- An address in three words, the earlier byte in bits 15–8. -/
def addressWords (a : Address) : List Word16 := words48 a.toNat

/-- A signed value in two words, in two's complement. -/
def signedWords (v : Int) : List Word16 := words32 (BitVec.ofInt 32 v).toNat

/-- The code of a status (section 11.6). -/
def statusCode : Status → Byte
  | .ok => 1
  | .okNoCounter => 2
  | .alreadyExists => 3
  | .notFound => 4
  | .noRoom => 5
  | .staleRef => 6
  | .badArg => 7
  | .notEmpty => 8
  | .sweepRunning => 9
  | .noSet => 10
  | .aborted => 11

/-- The code of an entry state in the entry image. -/
def lifeCode : Life → Nat
  | .new _ _ => 1
  | .live _ => 2
  | .stale _ => 3
  | .pinned => 4

/-- The fields of a learned entry, when it has them. -/
def agingOf : Life → Option Aging
  | .new a _ => some a
  | .live a => some a
  | .stale a => some a
  | .pinned => none

/-- Value words 4 to 13 of the entry image for the fields of an occupied entry. -/
def occupantWords (o : Occupant) : List Word16 :=
  addressWords o.key.address ++
  [ (match agingOf o.life with
      | some a => flagWord a.hit <<< 15 ||| flagWord a.frozen <<< 14 ||| word (a.moves * 256)
      | none => 0) |||
    (match o.life with
      | .new _ origin => word (origin.lane.val * 16 + origin.tag.val)
      | _ => 0),
    (match o.meter with
      | some m => 0x8000#16 ||| word m.profile.val
      | none => 0) ] ++
  (match o.meter with
    | some m => signedWords m.credit ++ words32 m.stamp.toNat
    | none => [0, 0, 0, 0]) ++
  [ match o.counterSet with
    | some n => 0x8000#16 ||| word n
    | none => 0 ]

/-- The bits of image word 2 that depend on a policy. -/
def denyBit (p : Policy) (k : Nat) : Word16 := if p = .deny then BitVec.twoPow 16 k else 0

/-- The 13 words of the entry image (section 11.6): of a FREE entry the ref, the state and the
generation alone (R160). -/
def entryImage (ref : Nat) (e : Entry) : List Word16 :=
  match e.occupant with
  | none => [word ref, e.generation.setWidth 16, 0, 0, 0, 0, 0, 0, 0, 0, 0, 0, 0]
  | some o =>
    [ word ref,
      word (lifeCode o.life * 8192) ||| denyBit o.sourcePolicy 11 |||
        denyBit o.destinationPolicy 10 |||
        (match o.place with
          | .group _ => 0x1000#16
          | .unicast _ => 0) ||| e.generation.setWidth 16,
      o.key.domain.setWidth 16 <<< 8 |||
        (match o.place with
          | .group members => members.setWidth 16
          | .unicast home => word home.val) ] ++ occupantWords o

end Sys2Proof.Machine
end

