-- ==== Sys2Proof/Machine/Meters.lean ====
section
/-!
DEFINITION. The meter of an entry: its creation (R90), its bring-up (R91, R92) and its debit (R93).
-/

namespace Sys2Proof.Machine

/-- A meter created with a profile: credit at the profile's ceiling, stamp now (R90). -/
def newMeter (p : ProfileNo) (s : State) : Meter := ⟨p, (profileAt s p).ceiling, s.ms⟩

/-- A bring-up under a profile: the refill for the time elapsed modulo 2^32, capped at the ceiling, and
the stamp moved to now (R91). -/
def broughtUp (p : Profile) (now : Time) (m : Meter) : Meter :=
  { m with
    credit := min (p.ceiling : Int) (m.credit + ((now - m.stamp).toNat * p.refill.toNat : Nat))
    stamp := now }

/-- A debit, floored at −16,777,215 (R93). -/
def debited (bytes : Nat) (m : Meter) : Meter :=
  { m with credit := max (-(Config.creditBound : Int)) (m.credit - (bytes : Int)) }

/-- The meter of the entry at `ref` when its profile reads as enabled (R92), with that profile. -/
def activeMeter (s : State) (ref : Nat) : Option (Occupant × Meter × Profile) :=
  match (entryAt s ref).occupant with
  | none => none
  | some o =>
    match o.meter with
    | none => none
    | some m => if (profileAt s m.profile).enabled then some (o, m, profileAt s m.profile) else none

/-- Brings the enabled meter of the entry at `ref` up to date and writes it; changes nothing when there
is no meter or its profile is disabled (R91, R92, R95). -/
def bringUpEntry (ref : Nat) (s : State) : State :=
  match activeMeter s ref with
  | none => s
  | some (o, m, p) => setOccupant ref { o with meter := some (broughtUp p s.ms m) } s

/-- The settle operation's debit of the entry at `ref`: a bring-up and then the byte count (R93). -/
def debitEntry (ref bytes : Nat) (s : State) : State :=
  match activeMeter s ref with
  | none => s
  | some (o, m, p) =>
    setOccupant ref { o with meter := some (debited bytes (broughtUp p s.ms m)) } s

end Sys2Proof.Machine
end

