-- ==== Sys2Proof/Machine/Flags.lean ====
section
/-!
DEFINITION. The flags of the part: the interrupt causes of Table 10-2, their bits in the pending and
enable words (section 11.4), and the INT line they drive (R178, R179, R187).
-/

namespace Sys2Proof.Machine

/-- The fourteen interrupt causes (Table 10-2). -/
inductive Cause where
  | commandDone
  | laneHeld (lane : LaneNo)
  | tableFull
  | spillHigh
  | orphansHigh
  | moveFrozen
  | sweepOverrun
deriving DecidableEq, Repr

/-- The bit of a cause in the interrupt words (section 11.4). -/
def causeBit : Cause → Nat
  | .commandDone => 0
  | .laneHeld l => 1 + l.val
  | .tableFull => 9
  | .spillHigh => 10
  | .orphansHigh => 11
  | .moveFrozen => 12
  | .sweepOverrun => 13

/-- The bits of the interrupt words that stand for a cause; bits 14–15 read 0 (section 11.4). -/
def causeMask : Word16 := 0x3FFF

/-- The word with the bit of one cause set. -/
def causeWord (c : Cause) : Word16 := BitVec.twoPow 16 (causeBit c)

/-- Raises a cause: its pending bit becomes set, or stays set (R178). -/
def raiseCause (c : Cause) (s : State) : State :=
  { s with irqPending := s.irqPending ||| causeWord c }

/-- A cause is pending. -/
def causePending (s : State) (c : Cause) : Bool := s.irqPending.getLsbD (causeBit c)

/-- A host write to the pending word clears each bit written as one (R178). -/
def clearCauses (value : Word16) (s : State) : State :=
  { s with irqPending := s.irqPending &&& ~~~value }

/-- A host write to the enable word replaces the set; writes to bits 14–15 have no effect (R179). -/
def enableCauses (value : Word16) (s : State) : State :=
  { s with irqEnable := value &&& causeMask }

/-- INT is asserted when some cause is both pending and enabled, and never while RESET# is low (R179). -/
def intAsserted (s : State) : Bool := !s.resetLow && (s.irqPending &&& s.irqEnable) != 0

/-- The level of the INT# pin: low while INT is asserted, high otherwise (R187). -/
def intPin (s : State) : Bool := !intAsserted s

end Sys2Proof.Machine
end

