-- ==== Sys2Proof/Machine/Pool.lean ====
section
/-!
DEFINITION. The Counter Pool's happenings within table operations (Chapter 6): taking a FREE set
(R103), charges (R108), and the handing of a retired entry's set (R106, R107).
-/

namespace Sys2Proof.Machine

/-- The lowest-numbered FREE counter set (R103). -/
def lowestFreeSet (s : State) : Option Nat :=
  (List.range Config.counterSets).find? fun n => (counterSetAt s n).state == .free

/-- The pool's answer to a request: the set it would give, `none` when it is not available (R103). -/
def answerRequest (q : SetRequest) (s : State) : Option Nat :=
  match q with
  | .any => lowestFreeSet s
  | .named n => if (counterSetAt s n).state = .free then some n else none

/-- Set `n` becomes ATTACHED, with zero counts, to the entry at `ref`, whose counter set field is
written with its number (R103). -/
def attachSet (n ref : Nat) (s : State) : State :=
  match (entryAt s ref).occupant with
  | none => s
  | some o =>
    setOccupant ref { o with counterSet := some n }
      (setCounterSetAt n ⟨.attached (pairAt s ref), .zero⟩ s)

/-- A table operation's request for a set for the entry at `ref`: the state after it, and the set given
(R103). -/
def requestSet (q : SetRequest) (ref : Nat) (s : State) : State × Option Nat :=
  match answerRequest q s with
  | none => (s, none)
  | some n => (attachSet n ref s, some n)

/-- The kinds of charge (Table 6-2). -/
inductive Charge where
  | sourceGood (byteCount : Word16)
  | sourceBad
  | destination
  | meterDrop
deriving DecidableEq, Repr

/-- A 32-bit count of a set plus one, saturating (R102). -/
def count32 (n : Nat) : Nat := satAdd (2 ^ 32 - 1) n 1

/-- The counts of a set after a charge, each saturating on its own (R108, R102). -/
def charged (c : Charge) (k : Counts) : Counts :=
  match c with
  | .sourceGood bytes =>
    { k with srcFrames := count32 k.srcFrames, srcBytes := satAdd (2 ^ 48 - 1) k.srcBytes bytes.toNat }
  | .sourceBad => { k with srcErrors := count32 k.srcErrors }
  | .destination => { k with dstFrames := count32 k.dstFrames }
  | .meterDrop => { k with meterDrops := count32 k.meterDrops }

/-- A charge reaches the pool: accepted when the set is ATTACHED and its owner is the charge's owner,
and otherwise discarded (R108). -/
def chargeSet (n : Nat) (owner : Pair) (c : Charge) (s : State) : State :=
  if (counterSetAt s n).state = .attached owner then
    setCounterSetAt n ⟨.attached owner, charged c (counterSetAt s n).counts⟩ s
  else s

/-- The charge of the entry at `ref`, to the set its counter set field names; none when it names none
(R108). -/
def chargeEntry (ref : Nat) (c : Charge) (s : State) : State :=
  match (entryAt s ref).occupant.bind (·.counterSet) with
  | none => s
  | some n => chargeSet n (pairAt s ref) c s

/-- Set `n` becomes FREE with its counts zero. -/
def freeSet (n : Nat) (s : State) : State := setCounterSetAt n .reset s

/-- The orphaned count rises by one, and ORPHANS_HIGH is raised when that brings it from below to the
watermark (R107). -/
def countOrphan (s : State) : State :=
  let t := { s with orphaned := s.orphaned + 1 }
  if s.orphanMark ≠ 0 ∧ s.orphaned + 1 = s.orphanMark then raiseCause .orphansHigh t else t

/-- A retired entry's set is handed to the pool with the retired key: FREE with auto-reclaim on,
ORPHANED with its counts kept otherwise (R106). -/
def handOver (n : Nat) (retired : Key) (s : State) : State :=
  if s.autoReclaim then freeSet n s
  else countOrphan (setCounterSetAt n ⟨.orphaned retired, (counterSetAt s n).counts⟩ s)

end Sys2Proof.Machine
end

