-- ==== Sys2Proof/Machine/Table.lean ====
section
/-!
DEFINITION. The Table Engine: search and allocation (R8, R9), retirement (R13), the occupancy counts
and the spill watermark (R14, R15), and the arbiter of its ten requesters (R21, R22, R23).
-/

namespace Sys2Proof.Machine

/-! ### Places -/

/-- The refs of the four ways of a bucket, lowest way first (R4). -/
def bucketRefs (b : Nat) : List Nat := [4 * b, 4 * b + 1, 4 * b + 2, 4 * b + 3]

/-- The refs of the spill area, lowest slot first (R4). -/
def spillRefs : List Nat := List.range' Config.mainRefs Config.spillSlots

/-- Where a key may lie: the ways of its bucket under the present hash select, then the spill slots
(R8, R9). -/
def placesOf (s : State) (k : Key) : List Nat := bucketRefs (bucketOf s.hashSelect k) ++ spillRefs

/-- The refs of step `k` of a sweep or a walk: a bucket or a group of eight spill slots (R74, R162). -/
def stepRefs (k : Nat) : List Nat :=
  if k < Config.buckets then bucketRefs k
  else List.range' (Config.mainRefs + 8 * (k - Config.buckets)) 8

/-- The step of a ref (R162). -/
def stepOf (ref : Nat) : Nat :=
  if ref < Config.mainRefs then ref / 4 else Config.buckets + (ref - Config.mainRefs) / 8

/-! ### Search and allocation -/

/-- The entry at `ref` holds the key (R8). -/
def holds (s : State) (k : Key) (ref : Nat) : Bool :=
  match (entryAt s ref).occupant with
  | none => false
  | some o => o.key == k

/-- A search for a key: the ref of the occupied entry that holds it (R8). -/
def searchKey (s : State) (k : Key) : Option Nat := (placesOf s k).find? (holds s k)

/-- Where an allocation for a key would go: the lowest FREE way of its bucket, or else the lowest FREE
spill slot; `none` when allocation fails (R9). -/
def freePlace (s : State) (k : Key) : Option Nat :=
  (placesOf s k).find? fun ref => (entryAt s ref).occupant.isNone

/-- The occupancy counts when the entry at `ref` becomes occupied (R14). -/
def occupied (ref : Nat) (c : Occupancy) : Occupancy :=
  if ref < Config.mainRefs then ⟨c.main + 1, c.spill, c.free - 1⟩
  else ⟨c.main, c.spill + 1, c.free - 1⟩

/-- The occupancy counts when the entry at `ref` becomes FREE (R14). -/
def vacated (ref : Nat) (c : Occupancy) : Occupancy :=
  if ref < Config.mainRefs then ⟨c.main - 1, c.spill, c.free + 1⟩
  else ⟨c.main, c.spill - 1, c.free + 1⟩

/-- Allocates the FREE entry at `ref`: the generation advances modulo 256 (R5), the fields are filled
and the occupancy counts rise (R9). -/
def allocate (ref : Nat) (o : Occupant) (s : State) : State :=
  { setEntry ref ⟨(entryAt s ref).generation + 1, some o⟩ s with
    occupancy := occupied ref s.occupancy }

/-- SPILL_HIGH at the end of a table operation that began with `before`: raised when its allocation
brought the spill occupied count from W − 1 to a non-zero W (R15). -/
def raiseSpillHigh (before : Occupancy) (s : State) : State :=
  if s.spillMark ≠ 0 ∧ before.spill + 1 = s.spillMark ∧ s.occupancy.spill = s.spillMark then
    raiseCause .spillHigh s
  else s

/-! ### Retirement -/

/-- The causes of a retirement (R13 step 5). -/
inductive RetireCause where
  | settleBad
  | sweepNew
  | sweepStale
  | hostRemove
  | flushMatch
deriving DecidableEq, Repr

/-- The statistic of a retirement's cause rises by one (R13 step 5). -/
def countRetirement (c : RetireCause) (t : TableStats) : TableStats :=
  match c with
  | .settleBad => { t with rejected := raise32 t.rejected }
  | .sweepNew => { t with unconfirmedRetired := raise32 t.unconfirmedRetired }
  | .sweepStale => { t with agedOut := raise32 t.agedOut }
  | .hostRemove => { t with hostRemoved := raise32 t.hostRemoved }
  | .flushMatch => { t with flushed := raise32 t.flushed }

/-- The set of a retired occupant, if any, is handed to the pool (R13 step 3). -/
def handOverSetOf (o : Occupant) (s : State) : State :=
  match o.counterSet with
  | none => s
  | some n => handOver n o.key s

/-- Retirement of the occupied entry at `ref` as one act (R13); an entry already FREE is left. -/
def retire (ref : Nat) (c : RetireCause) (s : State) : State :=
  match (entryAt s ref).occupant with
  | none => s
  | some o =>
    onTableStats (countRetirement c)
      (handOverSetOf o
        { setEntry ref ⟨(entryAt s ref).generation, none⟩ s with
          occupancy := vacated ref s.occupancy })

/-! ### The arbiter -/

/-- The command codes of the walks (Table 11-5). -/
def isWalkCode (c : Byte) : Bool := c == 0x10 || c == 0x11 || c == 0x12

/-- The command codes of the table commands: entry commands, configuration commands and walks (R142). -/
def isTableCode (c : Byte) : Bool := (1 ≤ c.toNat && c.toNat ≤ 0x0B) || isWalkCode c

/-- The RUNNING slot with its command block, if there is one (R142). -/
def runningSlot (s : State) : Option (SlotNo × Block) :=
  (List.finRange 4).findSome? fun n =>
    match slotAt s n with
    | .running b => some (n, b)
    | _ => none

/-- The Command Unit requests while a RUNNING command needs a table grant; a walk marked aborted does
not (R21, R145). -/
def commandUnitRequests (s : State) : Bool :=
  match runningSlot s with
  | none => false
  | some (_, b) =>
    isTableCode (codeOf b) &&
      (!isWalkCode (codeOf b) || (match s.walk with
        | some w => !w.aborted
        | none => false))

/-- Requester `k` of the arbiter's order is requesting the Table Engine (R21). -/
def requesting (s : State) (k : Fin 10) : Bool :=
  if h : k.val < 8 then !(laneAt s ⟨k.val, h⟩).queue.isEmpty
  else if k = 8 then commandUnitRequests s
  else s.sweepRunning

/-- The arbiter's choice: the first requester found requesting, scanning the order from the pointer and
wrapping (R22). -/
def arbiterChoice (s : State) : Option (Fin 10) :=
  (([0, 1, 2, 3, 4, 5, 6, 7, 8, 9] : List (Fin 10)).map (s.pointer + ·)).find? (requesting s)

/-- The requester the engine's next grant goes to; none while an operation is in progress (R22, R23). -/
def nextGrant (s : State) : Option (Fin 10) :=
  if s.engine = .idle then arbiterChoice s else none

/-- The grant to requester `k`: the pointer moves to the requester that follows it (R22), and the engine
is taken by the operation. -/
def grantTo (k : Fin 10) (e : Engine) (s : State) : State :=
  { s with pointer := k + 1, engine := e }

/-- One table operation, whole or in its parts: `grant` begins it when the engine's next grant is its own,
which `offered` says, and `finish` ends it when it is in progress; otherwise nothing happens (DESIGN CHOICE,
logs 2 and 3). -/
def operationParts (offered : State → Bool) (grant finish : State → State) (part : OpPart) (s : State) :
    Host.Outcome State Fault Refusal :=
  match part with
  | .whole => act (fun s => if offered s then finish (grant s) else s) s
  | .grant => act (fun s => if offered s then grant s else s) s
  | .finish => act finish s

/-- The occupancy counts a readout shows: those of the last table operation completed (R14). -/
def shownOccupancy (s : State) : Occupancy :=
  match s.engine with
  | .resolved _ _ before => before
  | .settled _ _ before => before
  | _ => s.occupancy

end Sys2Proof.Machine
end

