-- ==== Sys2Proof/Machine/Aging.lean ====
section
/-!
DEFINITION. The Aging Sweep (Chapter 4): the sweep visit (R76), SWEEP_STEP (R74) and AGE_TICK (R72).
-/

namespace Sys2Proof.Machine

/-- The fields of a LIVE entry's aging after a visit: hit no; moves 0 unless frozen (Table 4-2). -/
def visitedAging (a : Aging) : Aging :=
  { a with hit := false, moves := if a.frozen then a.moves else 0 }

/-- The sweep visit of the entry at `ref` (R76, Table 4-2). -/
def visit (ref : Nat) (s : State) : State :=
  match (entryAt s ref).occupant with
  | none => s
  | some o =>
    match o.life with
    | .new a origin =>
      if a.hit then setOccupant ref { o with life := .new { a with hit := false } origin } s
      else retire ref .sweepNew s
    | .live a =>
      if a.hit then setOccupant ref { o with life := .live (visitedAging a) } s
      else setOccupant ref { o with life := .stale (visitedAging a) } s
    | .stale _ => retire ref .sweepStale s
    | .pinned => s

/-- The sweep starts: RUNNING with cursor 0 (R72, R78). -/
def startSweep (s : State) : State := { s with sweepRunning := true, sweepCursor := 0 }

/-- The cursor at the end of a step; after step 2055 the sweep has ended: IDLE with cursor 0 (R74). -/
def advanceSweep (s : State) : State :=
  if s.sweepCursor + 1 < Config.walkSteps then { s with sweepCursor := s.sweepCursor + 1 }
  else { s with sweepRunning := false, sweepCursor := 0 }

/-- The visits of the step at the cursor, in order of ref (R74). -/
def visitStep (s : State) : State := (stepRefs s.sweepCursor).foldl (fun t ref => visit ref t) s

/-- The sweep step in progress is performed and ends (R74, R77). -/
def finishSweep (s : State) : State :=
  if s.engine = .sweepStep then { advanceSweep (visitStep s) with engine := .idle } else s

/-- SWEEP_STEP (R74): at the Aging Sweep's grant (R21) the step at the cursor is performed. -/
def execSweepStep (part : OpPart) (s : State) : Host.Outcome State Fault Refusal :=
  operationParts (fun s => decide (nextGrant s = some 9)) (grantTo 9 .sweepStep) finishSweep part s

/-- The age timer started with a period: stopped for 0, otherwise period × 1000 ms (R71). -/
def startAgeTimer (period : Nat) : Option Nat := if period = 0 then none else some (period * 1000)

/-- The age tick: a sweep starts when the sweep is IDLE; otherwise the tick is lost, counted as an overrun
and SWEEP_OVERRUN raised. The timer restarts with the period as it stands (R71, R72, R85). -/
def ageTick (s : State) : State :=
  let t := { s with ageTimer := startAgeTimer s.agePeriod }
  if s.sweepRunning then
    raiseCause .sweepOverrun
      (onTableStats (fun st => { st with sweepOverruns := raise32 st.sweepOverruns }) t)
  else startSweep t

/-- AGE_TICK (R72): the age timer runs out. It is not due, and nothing happens, unless the remaining time
has reached zero (R71). -/
def execAgeTick (s : State) : Host.Outcome State Fault Refusal :=
  act (fun s => if s.ageTimer = some 0 then ageTick s else s) s

end Sys2Proof.Machine
end

