-- ==== Sys2Proof/Machine/CommandUnit.lean ====
section
/-!
DEFINITION. The Command Unit (Chapter 8): the start of a command (R142), its completion (R143, R147),
and the two ways in which a RUNNING command is performed: at a table grant, or taken directly by the
block that owns it. SUBMIT, RETIRE and ABORT (R141, R144, R145) stand here for the Host Window.
-/

namespace Sys2Proof.Machine

/-- Slot `n` becomes DONE with its block and a result, and COMMAND_DONE is raised (R143, R147). -/
def makeDone (n : SlotNo) (b : Block) (st : Status) (values : List Word16) (s : State) : State :=
  raiseCause .commandDone (setSlot n (.done b ⟨codeOf b, st, values⟩) s)

/-- The RUNNING command in slot `n` completes; a walk's progress is held no longer (R140, R143). -/
def complete (n : SlotNo) (b : Block) (st : Status) (values : List Word16) (s : State) : State :=
  { makeDone n b st values s with walk := none }

/-! ### Starting -/

/-- The codes of the commands that are not table commands (Table 11-5). -/
def isDirectCode (c : Byte) : Bool :=
  c == 0x20 || c == 0x21 || c == 0x28 || c == 0x29 || c == 0x30 || c == 0x31 || c == 0x32 ||
  c == 0x38 || c == 0x39 || (0x40 ≤ c.toNat && c.toNat ≤ 0x45)

/-- The cursor a walk starts with: 0 for FLUSH and COUNT; for SEARCH the step of the start ref, or 2056
when that is above 8255 (R162). -/
def firstCursor (b : Block) : Nat :=
  if codeOf b = 0x12 then
    if (wordAt b 2).toNat < Config.allRefs then stepOf (wordAt b 2).toNat else Config.walkSteps
  else 0

/-- The progress of a walk at its start (R162). -/
def startWalk (b : Block) : Walk where
  domain := wordAt b 8
  lane := wordAt b 9
  cls := wordAt b 10
  kind := wordAt b 11
  startRef := if codeOf b = 0x12 then wordAt b 2 else 0
  cursor := firstCursor b
  stepsDone := 0
  tally := 0
  aborted := false

/-- Slot `n` starts: RUNNING; an unknown code completes at once with BAD_ARG (R142). -/
def startSlot (n : SlotNo) (b : Block) (s : State) : State :=
  if isTableCode (codeOf b) then
    { setSlot n (.running b) s with
      walk := if isWalkCode (codeOf b) then some (startWalk b) else none }
  else if isDirectCode (codeOf b) then setSlot n (.running b) s
  else complete n b .badArg [] s

/-- With no slot RUNNING and the submission order not empty, the slot at its head leaves the order and
starts (R142). -/
def commandStart (s : State) : State :=
  match runningSlot s, s.order with
  | none, n :: rest =>
    match slotAt s n with
    | .pending b => startSlot n b { s with order := rest }
    | _ => s
  | _, _ => s

/-- COMMAND_START (R142). Nothing happens while a slot is RUNNING or when no slot waits. -/
def execCommandStart (s : State) : Host.Outcome State Fault Refusal := act commandStart s

/-! ### Performing -/

/-- What performing a command gives: the state, the status and the value words. -/
abbrev Performed := State × Status × List Word16

/-- A command refused: no state changes (R149). -/
def refusedWith (st : Status) (values : List Word16) (s : State) : Performed := (s, st, values)

/-- The RUNNING slot, when its command has the code `c`. -/
def runningCode (c : Byte) (s : State) : Option (SlotNo × Block) :=
  match runningSlot s with
  | none => none
  | some (n, b) => if codeOf b = c then some (n, b) else none

/-- The RUNNING command with code `c` is performed by `work` and completes with what that gives (R143);
nothing happens when no such command is RUNNING (DESIGN CHOICE, log 2). -/
def performRunning (c : Byte) (work : Block → State → Performed) (s : State) : State :=
  match runningCode c s with
  | none => s
  | some (n, b) =>
    let (t, st, values) := work b s
    complete n b st values t

/-- A command handed to the block that takes it, outside any table grant (R142). -/
def directCommand (c : Byte) (work : Block → State → Performed) (s : State) :
    Host.Outcome State Fault Refusal :=
  act (performRunning c work) s

/-- The engine's next grant goes to the Command Unit for the RUNNING command with code `c` (R21). -/
def offersCommand (c : Byte) (s : State) : Bool :=
  decide (nextGrant s = some 8) && (runningCode c s).isSome

/-- The table operation in progress for the command with code `c` ends, `work` having been performed. -/
def finishCommand (c : Byte) (work : State → State) (s : State) : State :=
  if s.engine = .command ∧ (runningCode c s).isSome then work { s with engine := .idle } else s

/-- One table operation of the command with code `c`, whole or in its parts. -/
def commandOperation (c : Byte) (work : State → State) (part : OpPart) (s : State) :
    Host.Outcome State Fault Refusal :=
  operationParts (offersCommand c) (grantTo 8 .command) (finishCommand c work) part s

/-- A table command of one grant: its tests and its work are made within the grant (R150). -/
def tableCommand (c : Byte) (work : Block → State → Performed) (part : OpPart) (s : State) :
    Host.Outcome State Fault Refusal :=
  commandOperation c (performRunning c work) part s

/-! ### SUBMIT, RETIRE and ABORT -/

/-- A SUBMIT fills the lowest-numbered EMPTY slot with a copy of the submission area, or is discarded and
reads FULL (R141, R173). -/
def submitCommand (s : State) : State :=
  match slotsWhere (· == .empty) s with
  | [] => { s with submitStatus := .full }
  | n :: _ =>
    { setSlot n (.pending s.submission) s with
      order := s.order ++ [n]
      submitStatus := .slot n }

/-- A RETIRE empties the slot named when it is DONE (R144). -/
def retireSlot (n : SlotNo) (s : State) : State :=
  match slotAt s n with
  | .done _ _ => setSlot n .empty s
  | _ => s

/-- The value words of a walk's result but for SEARCH's entry image (R169). -/
def walkValues (w : Walk) : List Word16 := [word w.stepsDone, word w.cursor, word w.tally]

/-- An ABORT of the RUNNING walk in slot `n`: marked aborted when a step is in progress; otherwise it
completes ABORTED with the progress made so far (R145). -/
def abortWalk (n : SlotNo) (b : Block) (w : Walk) (s : State) : State :=
  if s.engine = .command then { s with walk := some { w with aborted := true } }
  else complete n b .aborted (walkValues w) s

/-- An ABORT acts by the slot's state and its command (R145). A slot aborted while PENDING carries no value
words (DEDUCED, log 9). -/
def abortSlot (n : SlotNo) (s : State) : State :=
  match slotAt s n with
  | .pending b => makeDone n b .aborted [] { s with order := s.order.filter (· != n) }
  | .running b =>
    match s.walk with
    | some w => if isWalkCode (codeOf b) then abortWalk n b w s else s
    | none => s
  | .empty => s
  | .done _ _ => s

end Sys2Proof.Machine
end

