-- ==== Sys2Proof/Machine/AgingCommands.lean ====
section
/-!
DEFINITION. The commands the Aging Sweep takes (Chapter 4): SET_AGING and SWEEP_NOW.
-/

namespace Sys2Proof.Machine

/-- SET_AGING stores a period of 0 to 4095 s and restarts or stops the age timer (R73). -/
def setAgingWork (b : Block) (s : State) : Performed :=
  if 4095 < (wordAt b 2).toNat then refusedWith .badArg [] s
  else
    ({ s with agePeriod := (wordAt b 2).toNat, ageTimer := startAgeTimer (wordAt b 2).toNat }, .ok, [])

/-- SET_AGING (R73). -/
def execSetAging (s : State) : Host.Outcome State Fault Refusal :=
  directCommand 0x38 setAgingWork s

/-- SWEEP_NOW starts a sweep when the sweep is IDLE, and otherwise completes with SWEEP_RUNNING (R78). -/
def sweepNowWork (_ : Block) (s : State) : Performed :=
  if s.sweepRunning then refusedWith .sweepRunning [] s else (startSweep s, .ok, [])

/-- SWEEP_NOW (R78). -/
def execSweepNow (s : State) : Host.Outcome State Fault Refusal :=
  directCommand 0x39 sweepNowWork s

end Sys2Proof.Machine
end

