-- ==== Sys2Proof/Machine/ConfigCommands.lean ====
section
/-!
DEFINITION. The configuration commands of the station table (Chapter 1): SET_HASH, SET_SPILL_MARK and
READ_TABLE_STATS, each of one table grant (R20).
-/

namespace Sys2Proof.Machine

/-- SET_HASH tests its argument first and the table second (R17). -/
def setHashWork (b : Block) (s : State) : Performed :=
  match belowOf 3 (wordAt b 2) with
  | none => refusedWith .badArg [] s
  | some select =>
    if s.occupancy.main ≠ 0 ∨ s.occupancy.spill ≠ 0 then refusedWith .notEmpty [] s
    else ({ s with hashSelect := select }, .ok, [])

/-- SET_HASH (R17). -/
def execSetHash (part : OpPart) (s : State) : Host.Outcome State Fault Refusal :=
  tableCommand 0x09 setHashWork part s

/-- SET_SPILL_MARK stores a W from 0 to 64 and raises nothing (R16). -/
def setSpillMarkWork (b : Block) (s : State) : Performed :=
  if Config.spillSlots < (wordAt b 2).toNat then refusedWith .badArg [] s
  else ({ s with spillMark := (wordAt b 2).toNat }, .ok, [])

/-- SET_SPILL_MARK (R16). -/
def execSetSpillMark (part : OpPart) (s : State) : Host.Outcome State Fault Refusal :=
  tableCommand 0x0A setSpillMarkWork part s

/-- The nine table statistics in the order of R18, as value words. -/
def tableStatsWords (t : TableStats) : List Word16 :=
  [t.learned, t.learnFailures, t.agedOut, t.unconfirmedRetired, t.rejected, t.hostRemoved, t.flushed,
    t.frozen, t.sweepOverruns].flatMap words32

/-- The grant of READ_TABLE_STATS: the nine statistics are read as they stand and, with clear set, are then
0 (R19). An overrun that an age tick counts after it is not in what is returned and stands as plus one. -/
def grantTableStats (s : State) : State :=
  let t := grantTo 8 (.readingStats s.tableStats) s
  match runningCode 0x0B s with
  | some (_, b) => if selected b 0 then { t with tableStats := .zero } else t
  | none => t

/-- The end of READ_TABLE_STATS: it completes with the statistics as at its grant (R19). -/
def finishTableStats (s : State) : State :=
  match s.engine, runningCode 0x0B s with
  | .readingStats k, some (n, b) => complete n b .ok (tableStatsWords k) { s with engine := .idle }
  | _, _ => s

/-- READ_TABLE_STATS (R19). -/
def execReadTableStats (part : OpPart) (s : State) : Host.Outcome State Fault Refusal :=
  operationParts (offersCommand 0x0B) grantTableStats finishTableStats part s

end Sys2Proof.Machine
end

