-- ==== Sys2Proof/Machine/DomainCommands.lean ====
section
/-!
DEFINITION. The commands the Domain Table takes (Chapter 2): SET_DOMAIN and READ_DOMAIN.
-/

namespace Sys2Proof.Machine

/-- The value a selected field is written with, or the one it keeps: a value not named is not checked
(R28, R87). -/
def fieldOr {α : Type} (named : Bool) (value : Option α) (kept : α) : Option α :=
  if named then value else some kept

/-- A move limit, 0 to 15 (Table 2-1). -/
def moveLimitOf (w : Word16) : Option Nat := if w.toNat ≤ Config.movesTop then some w.toNat else none

/-- The domain record after the named fields are written; `none` where R28 refuses a value. -/
def domainWritten (b : Block) (r : Domain) : Option Domain := do
  let enabled ← fieldOr (selected b 0) (onOffOf (wordAt b 8)) r.enabled
  let unknownUnicast ← fieldOr (selected b 3) (unknownOf (wordAt b 11)) r.unknownUnicast
  let unknownGroup ← fieldOr (selected b 4) (unknownOf (wordAt b 12)) r.unknownGroup
  let defaultProfile ← fieldOr (selected b 5) (profileOrNoneOf (wordAt b 13)) r.defaultProfile
  let moveLimit ← fieldOr (selected b 7) (moveLimitOf (wordAt b 14)) r.moveLimit
  some
    { enabled
      members := if selected b 1 then membersOf (wordAt b 9) else r.members
      learning := if selected b 2 then (wordAt b 10).getLsbD 0 else r.learning
      unknownUnicast
      unknownGroup
      defaultProfile
      autoCount := if selected b 6 then (wordAt b 10).getLsbD 1 else r.autoCount
      moveLimit }

/-- SET_DOMAIN's checks, then its write as one act; the result carries the domain number (R28), with every
status (DEDUCED, log 9). -/
def setDomainWork (b : Block) (s : State) : Performed :=
  match domainOf (wordAt b 2) with
  | none => refusedWith .badArg [wordAt b 2] s
  | some d =>
    match domainWritten b (domainAt s d) with
    | none => refusedWith .badArg [wordAt b 2] s
    | some r => (setDomainAt d r s, .ok, [wordAt b 2])

/-- SET_DOMAIN (R28). -/
def execSetDomain (s : State) : Host.Outcome State Fault Refusal :=
  directCommand 0x20 setDomainWork s

/-- The word of a profile or none in a result: the number, or the code a command word holds (R185; DEDUCED,
log 14). -/
def profileWord : Option ProfileNo → Word16
  | none => Config.noneCode
  | some p => word p.val

/-- The word of an unknown-destination policy in a result: the code a command word holds (R185; DEDUCED,
log 14). -/
def unknownWord (p : UnknownPolicy) : Word16 := if p = .drop then 1 else 0

/-- The record image of READ_DOMAIN: the fields in the order of Table 11-6, each in the code a command word
holds (R185; DEDUCED, log 14). -/
def domainWords (r : Domain) : List Word16 :=
  [flagWord r.enabled, r.members.setWidth 16, flagWord r.learning, unknownWord r.unknownUnicast,
    unknownWord r.unknownGroup, profileWord r.defaultProfile, flagWord r.autoCount, word r.moveLimit]

/-- READ_DOMAIN returns the whole record (R29). -/
def readDomainWork (b : Block) (s : State) : Performed :=
  match domainOf (wordAt b 2) with
  | none => refusedWith .badArg [] s
  | some d => (s, .ok, domainWords (domainAt s d))

/-- READ_DOMAIN (R29). -/
def execReadDomain (s : State) : Host.Outcome State Fault Refusal :=
  directCommand 0x21 readDomainWork s

end Sys2Proof.Machine
end

