-- ==== Sys2Proof/Machine/EntryCommands.lean ====
section
/-!
DEFINITION. The entry commands (sections 8.4 and 6.2): INSERT, UPDATE, REMOVE, REMOVE_KEY, FIND, READ,
ATTACH and DETACH. Each makes all its tests and all its work within its one table grant (R150).
-/

namespace Sys2Proof.Machine

/-- The ref and the generation of an entry, as value words. -/
def pairWords (p : Pair) : List Word16 := [word p.ref, p.generation.setWidth 16]

/-- The (ref, generation) that words 2 and 3 name; `none` for a ref above 8255. -/
def pairOf (b : Block) : Option Pair := (refOf (wordAt b 2)).map fun r => ⟨r, generationOf b⟩

/-! ### INSERT -/

/-- The entry an INSERT fills, but for its counter set (R152). -/
def insertedOccupant (o : InsertOperands) (p : Place) (s : State) : Occupant where
  key := o.key
  place := p
  sourcePolicy := o.sourcePolicy
  destinationPolicy := o.destinationPolicy
  life := if o.isStatic then .pinned else .live ⟨true, 0, false⟩
  meter := o.profile.map fun q => newMeter q s
  counterSet := none

/-- The mark of the counter set in an INSERT's result (Table 11-6). -/
def attachedMark : Option Nat → Word16
  | none => 0
  | some n => 0x8000#16 ||| word n

/-- The counter request of a successful INSERT, with its status and the set given (R153). -/
def insertCounter (q : Option SetRequest) (ref : Nat) (s : State) : State × Status × Option Nat :=
  match q with
  | none => (s, .ok, none)
  | some q =>
    match requestSet q ref s with
    | (t, some n) => (t, .ok, some n)
    | (t, none) => (t, .okNoCounter, none)

/-- A successful INSERT at `ref` (R152, R153, R15). -/
def insertAtRef (ref : Nat) (o : InsertOperands) (p : Place) (s : State) : Performed :=
  let (t, st, n) := insertCounter o.counter ref (allocate ref (insertedOccupant o p s) s)
  (raiseSpillHigh s.occupancy t, st, pairWords (pairAt t ref) ++ [attachedMark n])

/-- INSERT's tests in order, then its work (R151). -/
def insertWork (b : Block) (s : State) : Performed :=
  match insertOperands b with
  | none => refusedWith .badArg [] s
  | some o =>
    match insertPlace o with
    | none => refusedWith .badArg [] s
    | some p =>
      match searchKey s o.key with
      | some found => refusedWith .alreadyExists (pairWords (pairAt s found)) s
      | none =>
        match freePlace s o.key with
        | none => refusedWith .noRoom [] s
        | some ref => insertAtRef ref o p s

/-- INSERT (R151, R152, R153). -/
def execInsert (part : OpPart) (s : State) : Host.Outcome State Fault Refusal :=
  tableCommand 0x01 insertWork part s

/-! ### UPDATE -/

/-- An entry is learned: NEW, LIVE or STALE. -/
def isLearned (l : Life) : Bool := (agingOf l).isSome

/-- An entry is of kind UNICAST. -/
def isUnicast : Place → Bool
  | .unicast _ => true
  | .group _ => false

/-- The entry is in NEW, LIVE or STALE after the pin or unpin of an UPDATE (R157). -/
def learnedAfter (u : UpdateChanges) (l : Life) : Bool :=
  if u.pin then false else if u.unpin then true else isLearned l

/-- The state tests of an UPDATE on an entry (R155, R156, R157). -/
def updateAllowed (u : UpdateChanges) (o : Occupant) : Bool :=
  (!u.pin || isLearned o.life) &&
  (!u.unpin || (!isLearned o.life && isUnicast o.place)) &&
  (!u.home.isSome || isUnicast o.place) &&
  (!u.members.isSome || !isUnicast o.place) &&
  (!(u.unfreeze || u.clearMoves) || learnedAfter u o.life)

/-- Pin or unpin (R155). -/
def pinned (u : UpdateChanges) (l : Life) : Life :=
  if u.pin then .pinned else if u.unpin then .live ⟨true, 0, false⟩ else l

/-- A home lane or a member set written (R156). -/
def placed (u : UpdateChanges) (p : Place) : Place :=
  match p with
  | .unicast home => .unicast (u.home.getD home)
  | .group members => .group (u.members.getD members)

/-- A meter created afresh, discarded, or kept as it stands (R90, R157). -/
def metered (u : UpdateChanges) (m : Option Meter) (s : State) : Option Meter :=
  match u.meter with
  | none => m
  | some none => none
  | some (some p) => some (newMeter p s)

/-- Unfreeze and clear moves on the fields of a learned entry (R157). -/
def thawed (u : UpdateChanges) (a : Aging) : Aging :=
  { a with
    frozen := if u.unfreeze then false else a.frozen
    moves := if u.clearMoves then 0 else a.moves }

/-- The fields of a learned entry changed. -/
def onAging (f : Aging → Aging) : Life → Life
  | .new a origin => .new (f a) origin
  | .live a => .live (f a)
  | .stale a => .stale (f a)
  | .pinned => .pinned

/-- The entry after the named changes, in the order of R157. -/
def updated (u : UpdateChanges) (o : Occupant) (s : State) : Occupant :=
  { o with
    life := onAging (thawed u) (pinned u o.life)
    place := placed u o.place
    sourcePolicy := u.sourcePolicy.getD o.sourcePolicy
    destinationPolicy := u.destinationPolicy.getD o.destinationPolicy
    meter := metered u o.meter s }

/-- The ref and generation words an UPDATE's result carries, with every status: those the command names
(R154; DEDUCED, log 9). -/
def updateValues (b : Block) : List Word16 := [wordAt b 2, (generationOf b).setWidth 16]

/-- UPDATE's tests in order, then its changes as one act (R154). -/
def updateWork (b : Block) (s : State) : Performed :=
  match pairOf b, updateChanges b with
  | some p, some u =>
    if !current s p then refusedWith .staleRef (updateValues b) s
    else
      match (entryAt s p.ref).occupant with
      | none => refusedWith .staleRef (updateValues b) s
      | some o =>
        if updateAllowed u o then (setOccupant p.ref (updated u o s) s, .ok, updateValues b)
        else refusedWith .badArg (updateValues b) s
  | _, _ => refusedWith .badArg (updateValues b) s

/-- UPDATE (R154 to R157). -/
def execUpdate (part : OpPart) (s : State) : Host.Outcome State Fault Refusal :=
  tableCommand 0x02 updateWork part s

/-! ### REMOVE and REMOVE_KEY -/

/-- REMOVE's tests, then the retirement (R158). -/
def removeWork (b : Block) (s : State) : Performed :=
  match pairOf b with
  | none => refusedWith .badArg [] s
  | some p =>
    if current s p then (retire p.ref .hostRemove s, .ok, pairWords p)
    else refusedWith .staleRef [] s

/-- REMOVE (R158). -/
def execRemove (part : OpPart) (s : State) : Host.Outcome State Fault Refusal :=
  tableCommand 0x03 removeWork part s

/-- REMOVE_KEY's tests, then the retirement (R158). -/
def removeKeyWork (b : Block) (s : State) : Performed :=
  match searchableKeyOf b with
  | none => refusedWith .badArg [] s
  | some k =>
    match searchKey s k with
    | none => refusedWith .notFound [] s
    | some ref => (retire ref .hostRemove s, .ok, pairWords (pairAt s ref))

/-- REMOVE_KEY (R158). -/
def execRemoveKey (part : OpPart) (s : State) : Host.Outcome State Fault Refusal :=
  tableCommand 0x04 removeKeyWork part s

/-! ### FIND and READ -/

/-- An entry reported after its bring-up (R95, R160). -/
def report (ref : Nat) (s : State) : Performed :=
  let t := bringUpEntry ref s
  (t, .ok, entryImage ref (entryAt t ref))

/-- FIND's tests, then the report (R159). -/
def findWork (b : Block) (s : State) : Performed :=
  match searchableKeyOf b with
  | none => refusedWith .badArg [] s
  | some k =>
    match searchKey s k with
    | none => refusedWith .notFound [] s
    | some ref => report ref s

/-- FIND (R159). -/
def execFind (part : OpPart) (s : State) : Host.Outcome State Fault Refusal :=
  tableCommand 0x05 findWork part s

/-- READ's test, then the report (R160). -/
def readWork (b : Block) (s : State) : Performed :=
  match refOf (wordAt b 2) with
  | none => refusedWith .badArg [] s
  | some ref => report ref s

/-- READ (R160). -/
def execRead (part : OpPart) (s : State) : Host.Outcome State Fault Refusal :=
  tableCommand 0x06 readWork part s

/-! ### ATTACH and DETACH -/

/-- ATTACH's tests in order, then the attachment (R104). -/
def attachWork (b : Block) (s : State) : Performed :=
  match pairOf b, setOrAnyOf (wordAt b 8) with
  | some p, some q =>
    if !current s p then refusedWith .staleRef [] s
    else
      match (entryAt s p.ref).occupant.bind (·.counterSet) with
      | some n => refusedWith .alreadyExists [word n] s
      | none =>
        match requestSet q p.ref s with
        | (t, some n) => (t, .ok, [word n])
        | (_, none) => refusedWith .noSet [] s
  | _, _ => refusedWith .badArg [] s

/-- ATTACH (R104). -/
def execAttach (part : OpPart) (s : State) : Host.Outcome State Fault Refusal :=
  tableCommand 0x07 attachWork part s

/-- The counter set field of the entry at `ref` is removed. -/
def dropSetField (ref : Nat) (s : State) : State :=
  match (entryAt s ref).occupant with
  | none => s
  | some o => setOccupant ref { o with counterSet := none } s

/-- DETACH's tests in order, then the set freed with its counts zeroed (R105). -/
def detachWork (b : Block) (s : State) : Performed :=
  match pairOf b with
  | none => refusedWith .badArg [] s
  | some p =>
    if !current s p then refusedWith .staleRef [] s
    else
      match (entryAt s p.ref).occupant.bind (·.counterSet) with
      | none => refusedWith .badArg [] s
      | some n => (freeSet n (dropSetField p.ref s), .ok, [word n])

/-- DETACH (R105). -/
def execDetach (part : OpPart) (s : State) : Host.Outcome State Fault Refusal :=
  tableCommand 0x08 detachWork part s

end Sys2Proof.Machine
end

