-- ==== Sys2Proof/Machine/Lanes.lean ====
section
/-!
DEFINITION. The shared operations of a Lane Interface (Chapter 7): sending (R126), the close-out
(R122), lane faults and restarts (R123, R124), the judging of received messages (R121), the taking
of LOOKUP and SETTLE (R129, R130), the pause record (R97, R98), and the closing of a tag on the
result of a table operation (R134, R137).
-/

namespace Sys2Proof.Machine

/-! ### Sending -/

/-- A message is decided and placed at the tail of the transmit order (R126). -/
def sendOn (m : LaneMessage) (x : Lane) : Lane := { x with waiting := x.waiting ++ [m] }

/-- A message is a FAULT. -/
def isFault : LaneMessage → Bool
  | .fault _ => true
  | _ => false

/-- A FAULT is decided: not added while another FAULT waits in the order, not yet begun (R126). -/
def sendFaultOn (r : FaultReason) (x : Lane) : Lane :=
  if x.waiting.any isFault then x else sendOn (.fault r) x

/-- The transmit side goes on to the next message in the order; with none waiting, the message in
transmission, if any, has been transmitted and the lane sends idle (R126, R182). -/
def transmitNext (x : Lane) : Lane :=
  match x.waiting with
  | [] => { x with transmitting := none }
  | m :: rest => { x with transmitting := some m, waiting := rest }

/-! ### The close-out, faults and restarts -/

/-- A tag is open: QUEUED, SETTLING or CLOSING (R127). -/
def isOpen : Tag → Bool
  | .free _ => false
  | _ => true

/-- The lane close-out (R122): every open tag abandoned and counted, every settle timer stopped and
every late memo cleared, the work queue emptied, an item in hand cancelled, the pause record IDLE
with no message, and the messages not yet begun discarded. -/
def closeOut (x : Lane) : Lane :=
  { x with
    tags := []
    queue := []
    inHand := x.inHand.map fun h => { h with cancelled := true }
    pause := .idle
    waiting := []
    stats := { x.stats with
      abandonedTags := satAdd (2 ^ 32 - 1) x.stats.abandonedTags (countTags isOpen x) } }

/-- A lane fault in WAITING or READY: close-out, FAULT with the reason, the faults statistic,
LANE_HELD(n), and HELD (R123). -/
def laneFault (l : LaneNo) (r : FaultReason) (s : State) : State :=
  raiseCause (.laneHeld l)
    (onLane l (fun x =>
      let y := sendFaultOn r (closeOut x)
      { y with state := .held, stats := { y.stats with faults := raise32 y.stats.faults } }) s)

/-- A RESTART taken in WAITING or READY: close-out, RESTART_ACK, READY (R124). -/
def restartLane (x : Lane) : Lane :=
  { sendOn .restartAck (closeOut x) with state := .ready }

/-! ### Taking messages -/

/-- A LOOKUP taken on a FREE tag: the tag becomes QUEUED and a LOOKUP item joins the tail of the work
queue (R129). -/
def takeLookup (t : TagNo) (domain : Byte) (destination source : Address) (x : Lane) : Lane :=
  setTag t .queued { x with queue := x.queue ++ [.lookup t domain destination source] }

/-- A SETTLE that cannot be taken draws NACK UNKNOWN (R130). -/
def nackUnknown (t : TagNo) (x : Lane) : Lane :=
  sendOn (.nack t .unknown)
    { x with stats := { x.stats with unknownSettles := raise32 x.stats.unknownSettles } }

/-- A SETTLE for a tag whose late memo is yes draws NACK LATE; the memo stays yes (R130). -/
def nackLate (t : TagNo) (x : Lane) : Lane :=
  sendOn (.nack t .late)
    { x with stats := { x.stats with lateSettles := raise32 x.stats.lateSettles } }

/-- A SETTLE judged in READY acts on its tag by the tag's state (R130). -/
def takeSettle (t : TagNo) (good : Bool) (byteCount : Word16) (x : Lane) : Lane :=
  match tagOf x t with
  | .settling record _ =>
    setTag t (.closing record) { x with queue := x.queue ++ [.settle t good byteCount] }
  | .free true => nackLate t x
  | .free false => nackUnknown t x
  | .queued => nackUnknown t x
  | .closing _ => nackUnknown t x

/-- The outcome field of a SETTLE reads GOOD when it holds the GOOD code, and BAD otherwise (R121). -/
def isGood (outcome : Byte) : Bool := outcome == 0x01

/-- A well-formed message judged in READY (R121 tests 8 to 10). -/
def judgeReady (l : LaneNo) (m : PortMessage) (s : State) : State :=
  match m with
  | .restart => onLane l restartLane s
  | .lookup tag domain destination source =>
    if isOpen (tagOf (laneAt s l) (tagOfByte tag)) then laneFault l .tagBusy s
    else onLane l (takeLookup (tagOfByte tag) domain destination source) s
  | .settle tag outcome byteCount =>
    onLane l (takeSettle (tagOfByte tag) (isGood outcome) byteCount) s

/-- A well-formed message judged in WAITING (R121 tests 7 and 8). -/
def judgeWaiting (l : LaneNo) (m : PortMessage) (s : State) : State :=
  match m with
  | .restart => onLane l restartLane s
  | .lookup _ _ _ _ => onLane l (sendFaultOn .notReady) s
  | .settle _ _ _ => onLane l (sendFaultOn .notReady) s

/-- A message judged at its closing frame mark, in the lane state standing at that moment (R121). -/
def judge (l : LaneNo) (r : Received) (s : State) : State :=
  match (laneAt s l).state, r with
  | _, .nothing => s
  | .down, _ => s
  | .held, _ => onLane l (sendFaultOn .held) s
  | .waiting, .malformed reason => laneFault l reason s
  | .ready, .malformed reason => laneFault l reason s
  | .waiting, .message m => judgeWaiting l m s
  | .ready, .message m => judgeReady l m s

/-- What stands before a closing frame mark reaches the receive side (R182). A DOWN lane ignores it,
framing included. Otherwise its marks leave a message open for what follows, and it is judged unless
it has no opening mark of its own and none has arrived since the lane left DOWN (R117). -/
def receive (l : LaneNo) (opening : Opening) (r : Received) (s : State) : State :=
  let x := laneAt s l
  if x.state = .down then s
  else
    let t := setLane l { x with receiveOpen := true } s
    if opening = .shared && !x.receiveOpen then t else judge l r t

/-! ### The pause record -/

/-- A PAUSE is sent and the record becomes PAUSING with its quantum (R97 test 3, R98). -/
def startPause (quantum : Word16) (x : Lane) : Lane :=
  sendOn (.pause quantum)
    { x with
      pause := .pausing quantum.toNat quantum
      stats := { x.stats with pauseSent := raise32 x.stats.pauseSent } }

/-- A pause demand reaches the pause record of its lane (R97, R98). -/
def pauseDemand (quantum : Word16) (x : Lane) : Lane :=
  if x.state ≠ .ready ∨ x.pauseOn = false then
    { x with stats := { x.stats with pauseSuppressed := raise32 x.stats.pauseSuppressed } }
  else
    match x.pause with
    | .idle => startPause quantum x
    | .pausing remaining now =>
      if now.toNat ≤ 2 * remaining then
        { x with stats := { x.stats with pauseAbsorbed := raise32 x.stats.pauseAbsorbed } }
      else startPause quantum x

/-- PAUSE_CANCEL at the record: RESUME and IDLE when it is PAUSING, nothing when it is IDLE (R100). -/
def cancelPause (x : Lane) : Lane :=
  match x.pause with
  | .idle => x
  | .pausing _ _ => { sendOn .resume x with pause := .idle }

/-- A microsecond tick at the record: the remaining time falls by one (R96). -/
def countDownPause (x : Lane) : Lane :=
  match x.pause with
  | .idle => x
  | .pausing remaining quantum => { x with pause := .pausing (remaining - 1) quantum }

/-! ### Settle timers -/

/-- The settle timer started with a verdict: none for a timeout of 0; otherwise it runs to the verdict
time plus the timeout, modulo 2^32 (R63, R128). -/
def startTimer (timeout : Byte) (verdictTime : Time) : Timer :=
  if timeout = 0 then .stopped else .running (verdictTime + timeout.setWidth 32)

/-- A millisecond tick at a tag's settle timer: it runs out when the counter reads its end (R128). -/
def testTimer (now : Time) (t : Tag) : Tag :=
  match t with
  | .settling record (.running deadline) =>
    if now = deadline then .settling record .ranOut else t
  | _ => t

/-- A millisecond tick at a lane: its sixteen settle timers are tested (R128, R180). -/
def testTimers (now : Time) (x : Lane) : Lane :=
  (List.finRange 16).foldl (fun y t => setTag t (testTimer now (tagOf y t)) y) x

/-- The settle timer of a SETTLING tag runs out: FREE with late memo yes, orphaned tags +1 (R131). -/
def timeOut (t : TagNo) (x : Lane) : Lane :=
  match tagOf x t with
  | .settling _ .ranOut =>
    setTag t (.free true)
      { x with stats := { x.stats with orphanedTags := raise32 x.stats.orphanedTags } }
  | _ => x

/-! ### The item in hand -/

/-- At a lane's grant its head item is removed from the queue and becomes the item in hand (R133). -/
def takeInHand (x : Lane) : Lane :=
  match x.queue with
  | [] => x
  | item :: rest => { x with queue := rest, inHand := some ⟨item, false⟩ }

/-- The item in hand is cancelled, or there is none (R133), which no reachable state has at that moment (DESIGN
CHOICE, log 12). -/
def resultDiscarded (x : Lane) : Bool :=
  match x.inHand with
  | none => true
  | some h => h.cancelled

/-- The lane acts on the result of a resolve: it closes the tag, counts the verdict, sends it and starts
the settle timer (R62, R63). -/
def actOnVerdict (t : TagNo) (r : ResolveResult) (now : Time) (x : Lane) : Lane :=
  let st := { x.stats with lookups := raise32 x.stats.lookups }
  sendOn (.verdict t r.verdict)
    (match r.verdict.action with
      | .drop => setTag t (.free false) { x with stats := { st with drops := raise32 st.drops } }
      | .forward =>
        setTag t (.settling ⟨r.source, r.created, r.destination, now⟩ (startTimer x.settleTimeout now))
          { x with stats := { st with forwards := raise32 st.forwards } }
      | .flood =>
        setTag t (.settling ⟨r.source, r.created, r.destination, now⟩ (startTimer x.settleTimeout now))
          { x with stats := { st with floods := raise32 st.floods } })

/-- The result of a resolve is handed back: acted on, or discarded when the item was cancelled; the item
in hand is ended (R134). -/
def takeVerdict (t : TagNo) (r : ResolveResult) (now : Time) (x : Lane) : Lane :=
  if resultDiscarded x then { x with inHand := none }
  else { actOnVerdict t r now x with inHand := none }

/-- The result of a settle operation is handed back: the tag becomes FREE with late memo no, unless the
item was cancelled; the item in hand is ended (R137). -/
def takeSettled (t : TagNo) (x : Lane) : Lane :=
  if resultDiscarded x then { x with inHand := none }
  else { setTag t (.free false) x with inHand := none }

end Sys2Proof.Machine
end

