-- ==== Sys2Proof/Machine/LaneCommands.lean ====
section
/-!
DEFINITION. The commands a Lane Interface takes (Chapters 5 and 7): LANE_ENABLE, LANE_SET,
LANE_DISABLE, LANE_RELEASE, READ_LANE_STATS and PAUSE_CANCEL.
-/

namespace Sys2Proof.Machine

/-- A settle timeout, 0 to 255 ms (Table 7-2). -/
def timeoutOf : Word16 → Option Byte := domainOf

/-- The settings after the named ones are written; `none` where R118 refuses a value. -/
def settingsWritten (learning pause timeout : Bool) (b : Block) (x : Lane) : Option Lane := do
  let learning ← fieldOr learning (onOffOf (wordAt b 8)) x.learning
  let pauseOn ← fieldOr pause (onOffOf (wordAt b 9)) x.pauseOn
  let settleTimeout ← fieldOr timeout (timeoutOf (wordAt b 10)) x.settleTimeout
  some { x with learning, pauseOn, settleTimeout }

/-- LANE_ENABLE's tests in order; then the settings are written and the lane becomes WAITING, its receive
side discarding everything up to the first frame mark (R117, R182). -/
def laneEnableWork (b : Block) (s : State) : Performed :=
  match laneOf (wordAt b 2) with
  | none => refusedWith .badArg [] s
  | some l =>
    match settingsWritten true true true b (laneAt s l) with
    | none => refusedWith .badArg [] s
    | some x =>
      if x.state = .down then
        (setLane l { x with state := .waiting, receiveOpen := false } s, .ok, [])
      else refusedWith .badArg [] s

/-- LANE_ENABLE (R117). -/
def execLaneEnable (s : State) : Host.Outcome State Fault Refusal :=
  directCommand 0x40 laneEnableWork s

/-- LANE_SET writes the named settings as one act, in any lane state (R118). -/
def laneSetWork (b : Block) (s : State) : Performed :=
  match laneOf (wordAt b 2) with
  | none => refusedWith .badArg [] s
  | some l =>
    match settingsWritten (selected b 0) (selected b 1) (selected b 2) b (laneAt s l) with
    | none => refusedWith .badArg [] s
    | some x => (setLane l x s, .ok, [])

/-- LANE_SET (R118). -/
def execLaneSet (s : State) : Host.Outcome State Fault Refusal :=
  directCommand 0x41 laneSetWork s

/-- A lane disabled: the close-out, no message, and DOWN; a DOWN lane is left as it is (R119). -/
def disabled (x : Lane) : Lane :=
  if x.state = .down then x else { closeOut x with state := .down, receiveOpen := false }

/-- LANE_DISABLE takes a lane to DOWN from any state (R119). -/
def laneDisableWork (b : Block) (s : State) : Performed :=
  match laneOf (wordAt b 2) with
  | none => refusedWith .badArg [] s
  | some l => (onLane l disabled s, .ok, [])

/-- LANE_DISABLE (R119). -/
def execLaneDisable (s : State) : Host.Outcome State Fault Refusal :=
  directCommand 0x42 laneDisableWork s

/-- LANE_RELEASE takes a HELD lane back to WAITING (R120). -/
def laneReleaseWork (b : Block) (s : State) : Performed :=
  match laneOf (wordAt b 2) with
  | none => refusedWith .badArg [] s
  | some l =>
    if (laneAt s l).state = .held then (onLane l (fun x => { x with state := .waiting }) s, .ok, [])
    else refusedWith .badArg [] s

/-- LANE_RELEASE (R120). -/
def execLaneRelease (s : State) : Host.Outcome State Fault Refusal :=
  directCommand 0x43 laneReleaseWork s

/-- The code of a lane state (section 11.4). -/
def laneStateCode : LaneState → Nat
  | .down => 0
  | .waiting => 1
  | .ready => 2
  | .held => 3

/-- A tag is QUEUED. -/
def isQueued : Tag → Bool
  | .queued => true
  | _ => false

/-- A tag is SETTLING. -/
def isSettling : Tag → Bool
  | .settling _ _ => true
  | _ => false

/-- A tag is CLOSING. -/
def isClosing : Tag → Bool
  | .closing _ => true
  | _ => false

/-- The sixteen lane statistics in the order of Table 7-5, as value words. -/
def laneStatsWords (t : LaneStats) : List Word16 :=
  [t.lookups, t.forwards, t.floods, t.drops, t.learns, t.learnFailures, t.moves, t.abandonedTags,
    t.orphanedTags, t.lateSettles, t.unknownSettles, t.lostCharges, t.faults, t.pauseSent,
    t.pauseAbsorbed, t.pauseSuppressed].flatMap words32

/-- The value words of READ_LANE_STATS (R138, Table 11-6). -/
def laneWords (x : Lane) : List Word16 :=
  [ word (laneStateCode x.state) ||| flagWord x.learning <<< 2 ||| flagWord x.pauseOn <<< 3 |||
      x.settleTimeout.setWidth 16 <<< 8,
    word (countTags isQueued x) ||| word (countTags isSettling x) <<< 8,
    word (countTags isClosing x) ||| word x.queue.length <<< 8 ] ++ laneStatsWords x.stats

/-- READ_LANE_STATS returns the lane's statistics, state, settings, tag counts and queue length and, with
clear set, then zeroes the statistics (R138). -/
def readLaneStatsWork (b : Block) (s : State) : Performed :=
  match laneOf (wordAt b 2) with
  | none => refusedWith .badArg [] s
  | some l =>
    (if selected b 0 then onLaneStats l (fun _ => .zero) s else s, .ok, laneWords (laneAt s l))

/-- READ_LANE_STATS (R138). -/
def execReadLaneStats (s : State) : Host.Outcome State Fault Refusal :=
  directCommand 0x44 readLaneStatsWork s

/-- PAUSE_CANCEL ends a lane's pause early (R100). -/
def pauseCancelWork (b : Block) (s : State) : Performed :=
  match laneOf (wordAt b 2) with
  | none => refusedWith .badArg [] s
  | some l => (onLane l cancelPause s, .ok, [])

/-- PAUSE_CANCEL (R100). -/
def execPauseCancel (s : State) : Host.Outcome State Fault Refusal :=
  directCommand 0x45 pauseCancelWork s

end Sys2Proof.Machine
end

