-- ==== Sys2Proof/Machine/HostWindow.lean ====
section
/-!
DEFINITION. The Host Window (Chapter 10): the host's writes to its words (R172 to R174, R178 to R181),
what a read of each word returns (R172 to R177, R186), and device reset (R181, R187).
-/

namespace Sys2Proof.Machine

/-! ### Reads -/

/-- The submit status word (R173, Table 11-4). -/
def submitStatusWord : SubmitStatus → Word16
  | .none => 0xFFFF
  | .slot n => word n.val
  | .full => 0x8000

/-- Word `i` of the result area of slot `n`: the page that submission word 15 names of a DONE slot's
result, and 0 while the slot is not DONE (R175, R186). -/
def resultAreaWord (s : State) (n : SlotNo) (i : Nat) : Word16 :=
  match slotAt s n with
  | .done _ r =>
    if i = 0 then r.code.setWidth 16 <<< 8 ||| (statusCode r.status).setWidth 16
    else r.values.getD (15 * (wordAt s.submission 15 &&& 3).toNat + i - 1) 0
  | _ => 0

/-- The code of a slot state (section 11.4). -/
def slotCode : Slot → Nat
  | .empty => 0
  | .pending _ => 1
  | .running _ => 2
  | .done _ _ => 3

/-- The slot states readout: slot n in bits 2n+1–2n (section 11.4). -/
def slotStatesWord (s : State) : Word16 :=
  word ((List.finRange 4).foldl (fun a n => a + slotCode (slotAt s n) * 4 ^ n.val) 0)

/-- The lane states readout: lane n in bits 2n+1–2n (section 11.4). -/
def laneStatesWord (s : State) : Word16 :=
  word ((List.finRange 8).foldl (fun a l => a + laneStateCode (laneAt s l).state * 4 ^ l.val) 0)

/-- The sweep readout: bit 15 RUNNING, bits 11–0 the cursor (R75, section 11.4). -/
def sweepWord (s : State) : Word16 := flagWord s.sweepRunning <<< 15 ||| word s.sweepCursor

/-- A bit of a result area address: slot and word of addresses 0x20 to 0x5F. -/
def resultAreaOf (a : Nat) : Option (SlotNo × Nat) :=
  if h : 0x20 ≤ a ∧ a < 0x60 then some (⟨(a - 0x20) / 16, by omega⟩, (a - 0x20) % 16) else none

/-- What a host read of a word returns (R172, Table 11-4); 0 in every word while RESET# is low (R181). -/
def windowRead (s : State) (address : BitVec 7) : Word16 :=
  if s.resetLow then 0
  else
    match address.toNat with
    | 0x13 => submitStatusWord s.submitStatus
    | 0x60 => s.irqPending
    | 0x61 => s.irqEnable
    | 0x62 => word (shownOccupancy s).main
    | 0x63 => word (shownOccupancy s).spill
    | 0x64 => word (shownOccupancy s).free
    | 0x65 => sweepWord s
    | 0x66 => slotStatesWord s
    | 0x67 => laneStatesWord s
    | 0x68 => word s.orphaned
    | 0x69 => s.ms.setWidth 16
    | 0x6A => s.highCapture
    | 0x70 => s.divider.setWidth 16
    | a =>
      if a < 16 then wordAt s.submission a
      else
        match resultAreaOf a with
        | some (n, i) => resultAreaWord s n i
        | none => 0

/-- A read of the counter's low word: bits 0–15 on the bus, and bits 16–31 into the capture (R177). -/
def readCounterLow (s : State) : State :=
  { s with readData := windowRead s 0x69, highCapture := (s.ms >>> 16).setWidth 16 }

/-- MILLISECOND_COUNTER_LOW_READ (R177). -/
def execMillisecondCounterLowRead (s : State) : Host.Outcome State Fault Refusal :=
  act readCounterLow s

/-! ### Writes -/

/-- A value names a slot, 0 to 3 (R174). -/
def slotNamed (value : Word16) : Option SlotNo := belowOf 4 value

/-- SUBMIT: a write of any value to the SUBMIT word (R141, R173). -/
def execSubmit (_ : Word16) (s : State) : Host.Outcome State Fault Refusal := act submitCommand s

/-- A write to the RETIRE word; a value above 3 is ignored (R144, R174). -/
def writeRetire (value : Word16) (s : State) : State :=
  match slotNamed value with
  | none => s
  | some n => retireSlot n s

/-- RETIRE (R144). -/
def execRetire (value : Word16) (s : State) : Host.Outcome State Fault Refusal :=
  act (writeRetire value) s

/-- A write to the ABORT word; a value above 3 is ignored (R145, R174). -/
def writeAbort (value : Word16) (s : State) : State :=
  match slotNamed value with
  | none => s
  | some n => abortSlot n s

/-- ABORT (R145). -/
def execAbort (value : Word16) (s : State) : Host.Outcome State Fault Refusal :=
  act (writeAbort value) s

/-- INTERRUPT_PENDING (R178). -/
def execInterruptPending (value : Word16) (s : State) : Host.Outcome State Fault Refusal :=
  act (clearCauses value) s

/-- INTERRUPT_ENABLE (R179). -/
def execInterruptEnable (value : Word16) (s : State) : Host.Outcome State Fault Refusal :=
  act (enableCauses value) s

/-- A write to the divider word stores a value from 1 to 255; a value above 255 is stored as its low eight
bits; one whose low eight bits are 0 is ignored (R180). -/
def writeDivider (value : Word16) (s : State) : State :=
  if value.setWidth 8 = 0#8 then s else { s with divider := value.setWidth 8 }

/-- TIMEBASE_DIVIDER (R180). -/
def execTimebaseDivider (value : Word16) (s : State) : Host.Outcome State Fault Refusal :=
  act (writeDivider value) s

/-! ### Device reset -/

/-- Device reset: every block takes its state after device reset (R24, R26, R84, R86, R114, R139, R148,
R181). The commands that come after it stay in the queue (DESIGN CHOICE, log 1). -/
def deviceReset (s : State) : State := { State.reset with pending := s.pending }

/-- A write to the reset word: the reset value resets the part, any other is ignored (R181). -/
def writeReset (value : Word16) (s : State) : State :=
  if value = Config.resetValue then deviceReset s else s

/-- RESET_WORD (R181). -/
def execResetWord (value : Word16) (s : State) : Host.Outcome State Fault Refusal :=
  act (writeReset value) s

/-- RESET_PIN: RESET# going low takes device reset and holds the part in reset (R181, R187). -/
def execResetPin (s : State) : Host.Outcome State Fault Refusal :=
  .next { deviceReset s with resetLow := true }

/-- RESET_PIN_RELEASE: RESET# rises and the part proceeds from the state it stands in (R181, R187). -/
def execResetPinRelease (s : State) : Host.Outcome State Fault Refusal :=
  .next { s with resetLow := false }

/-! ### REGISTER_WRITE -/

/-- A host write to any word of the window (R172, Table 11-4): a submission word stores the value, an
action word or a word with a rule of its own acts by that rule, and a readout or an unassigned address
ignores it. The words with rows of their own are no REGISTER_WRITE (DESIGN CHOICE, log 11). -/
def windowWrite (address : BitVec 7) (value : Word16) (s : State) : State :=
  match address.toNat with
  | 0x10 => submitCommand s
  | 0x11 => writeRetire value s
  | 0x12 => writeAbort value s
  | 0x60 => clearCauses value s
  | 0x61 => enableCauses value s
  | 0x70 => writeDivider value s
  | 0x7F => writeReset value s
  | a => if a < 16 then { s with submission := setWord a value s.submission } else s

/-- REGISTER_WRITE (R172, R173): a host write to a submission word, a readout or an unassigned address. -/
def execRegisterWrite (address : BitVec 7) (value : Word16) (s : State) :
    Host.Outcome State Fault Refusal :=
  act (windowWrite address value) s

end Sys2Proof.Machine
end

