-- ==== Sys2Proof/Machine/LaneEvents.lean ====
section
/-!
DEFINITION. The commands that are happenings of a lane: the messages a port controller sends
(LOOKUP, SETTLE, RESTART, MALFORMED_MESSAGE), the transmit side's next message, a settle timer's end
and a pause's expiry.
-/

namespace Sys2Proof.Machine

/-- LOOKUP: a LOOKUP message, well formed and with a good check byte, is judged (R121, R129). -/
def execLookup (l : LaneNo) (opening : Opening) (tag domain : Byte) (destination source : Address)
    (s : State) : Host.Outcome State Fault Refusal :=
  act (receive l opening (.message (.lookup tag domain destination source))) s

/-- SETTLE: a SETTLE message, well formed and with a good check byte, is judged (R121, R130). -/
def execSettle (l : LaneNo) (opening : Opening) (tag outcome : Byte) (byteCount : Word16)
    (s : State) : Host.Outcome State Fault Refusal :=
  act (receive l opening (.message (.settle tag outcome byteCount))) s

/-- RESTART: a RESTART message, well formed and with a good check byte, is judged (R121, R124). -/
def execRestart (l : LaneNo) (opening : Opening) (s : State) : Host.Outcome State Fault Refusal :=
  act (receive l opening (.message .restart)) s

/-- MALFORMED_MESSAGE: what stands between two frame marks is read and judged (R121, R182). -/
def execMalformedMessage (l : LaneNo) (opening : Opening) (body : List Symbol) (s : State) :
    Host.Outcome State Fault Refusal :=
  act (receive l opening (readBody body)) s

/-- TRANSMIT_MESSAGE: the lane begins the next decided message, those before it transmitted (R126). -/
def execTransmitMessage (l : LaneNo) (s : State) : Host.Outcome State Fault Refusal :=
  act (onLane l transmitNext) s

/-- SETTLE_TIMEOUT: the settle timer of a SETTLING tag runs out (R131). It is not due, and nothing
happens, unless a millisecond tick has found the timer at its end (R128). -/
def execSettleTimeout (l : LaneNo) (t : TagNo) (s : State) : Host.Outcome State Fault Refusal :=
  act (onLane l (timeOut t)) s

/-- The pause record becomes IDLE with no message when its remaining time is zero (R99). -/
def expirePause (x : Lane) : Lane :=
  match x.pause with
  | .pausing 0 _ => { x with pause := .idle }
  | _ => x

/-- PAUSE_EXPIRY: a PAUSING record whose remaining time has reached zero becomes IDLE (R99). -/
def execPauseExpiry (l : LaneNo) (s : State) : Host.Outcome State Fault Refusal :=
  act (onLane l expirePause) s

end Sys2Proof.Machine
end

