-- ==== Sys2Proof/Machine/PoolCommands.lean ====
section
/-!
DEFINITION. The commands the Counter Pool takes (Chapter 6): READ_COUNTERS, RECLAIM and SET_POOL.
-/

namespace Sys2Proof.Machine

/-- Value words 1 to 5 of READ_COUNTERS: set number and state, then owner or retired key (Table 11-6). -/
def setStateWords (n : Nat) : SetState → List Word16
  | .free => [word n, 0, 0, 0, 0]
  | .attached owner => [0x1000#16 ||| word n, owner.generation.setWidth 16, word owner.ref, 0, 0]
  | .orphaned k => [0x2000#16 ||| word n, k.domain.setWidth 16] ++ addressWords k.address

/-- Value words 6 to 16 of READ_COUNTERS: the five counts (Table 11-6). -/
def countsWords (k : Counts) : List Word16 :=
  words32 k.srcFrames ++ words48 k.srcBytes ++ words32 k.srcErrors ++ words32 k.dstFrames ++
    words32 k.meterDrops

/-- READ_COUNTERS returns one set and, with clear set, then zeroes its counts; state, owner and retired key
are kept (R109). -/
def readCountersWork (b : Block) (s : State) : Performed :=
  match counterSetOf (wordAt b 2) with
  | none => refusedWith .badArg [] s
  | some n =>
    let c := counterSetAt s n
    (if selected b 0 then setCounterSetAt n { c with counts := .zero } s else s, .ok,
      setStateWords n c.state ++ countsWords c.counts)

/-- READ_COUNTERS (R109). -/
def execReadCounters (s : State) : Host.Outcome State Fault Refusal :=
  directCommand 0x30 readCountersWork s

/-- RECLAIM frees an ORPHANED set and lowers the orphaned count (R111). -/
def reclaimWork (b : Block) (s : State) : Performed :=
  match counterSetOf (wordAt b 2) with
  | none => refusedWith .badArg [] s
  | some n =>
    match (counterSetAt s n).state with
    | .orphaned _ => ({ freeSet n s with orphaned := s.orphaned - 1 }, .ok, [])
    | _ => refusedWith .badArg [] s

/-- RECLAIM (R111). -/
def execReclaim (s : State) : Host.Outcome State Fault Refusal :=
  directCommand 0x31 reclaimWork s

/-- SET_POOL writes both pool settings as one act (R112). -/
def setPoolWork (b : Block) (s : State) : Performed :=
  match onOffOf (wordAt b 8) with
  | none => refusedWith .badArg [] s
  | some auto =>
    if Config.counterSets < (wordAt b 9).toNat then refusedWith .badArg [] s
    else ({ s with autoReclaim := auto, orphanMark := (wordAt b 9).toNat }, .ok, [])

/-- SET_POOL (R112). -/
def execSetPool (s : State) : Host.Outcome State Fault Refusal :=
  directCommand 0x32 setPoolWork s

end Sys2Proof.Machine
end

