-- ==== Sys2Proof/Machine/ProfileCommands.lean ====
section
/-!
DEFINITION. The commands the Meter Unit takes (section 5.1): SET_PROFILE and READ_PROFILE.
-/

namespace Sys2Proof.Machine

/-- A ceiling, 1 to 16,777,215, from words 10 and 11, high word first (R87, R185). -/
def ceilingOf (b : Block) : Option Nat :=
  let v := (wordAt b 10 ++ wordAt b 11).toNat
  if 1 ≤ v ∧ v ≤ Config.creditBound then some v else none

/-- A quantum: 0 is refused (R87). -/
def quantumOf (w : Word16) : Option Word16 := if w = 0 then none else some w

/-- The profile after the named fields are written; `none` where R87 refuses a value. -/
def profileWritten (b : Block) (r : Profile) : Option Profile := do
  let enabled ← fieldOr (selected b 0) (onOffOf (wordAt b 8)) r.enabled
  let ceiling ← fieldOr (selected b 2) (ceilingOf b) r.ceiling
  let action ← fieldOr (selected b 3) (meterActionOf (wordAt b 12)) r.action
  let quantum ← fieldOr (selected b 4) (quantumOf (wordAt b 13)) r.quantum
  some { enabled, refill := if selected b 1 then wordAt b 9 else r.refill, ceiling, action, quantum }

/-- SET_PROFILE's checks, then its write as one act; the result carries the profile number (R87), with every
status (DEDUCED, log 9). -/
def setProfileWork (b : Block) (s : State) : Performed :=
  match belowOf 32 (wordAt b 2) with
  | none => refusedWith .badArg [wordAt b 2] s
  | some p =>
    match profileWritten b (profileAt s p) with
    | none => refusedWith .badArg [wordAt b 2] s
    | some r => (setProfileAt p r s, .ok, [wordAt b 2])

/-- SET_PROFILE (R87). -/
def execSetProfile (s : State) : Host.Outcome State Fault Refusal :=
  directCommand 0x28 setProfileWork s

/-- The profile image of READ_PROFILE (Table 11-6), each field in the code a command word holds (R185; DEDUCED,
log 14). -/
def profileWords (r : Profile) : List Word16 :=
  [flagWord r.enabled, r.refill] ++ words32 r.ceiling ++
    [if r.action = .pause then 1 else 0, r.quantum]

/-- READ_PROFILE returns all five fields (R88). -/
def readProfileWork (b : Block) (s : State) : Performed :=
  match belowOf 32 (wordAt b 2) with
  | none => refusedWith .badArg [] s
  | some p => (s, .ok, profileWords (profileAt s p))

/-- READ_PROFILE (R88). -/
def execReadProfile (s : State) : Host.Outcome State Fault Refusal :=
  directCommand 0x29 readProfileWork s

end Sys2Proof.Machine
end

