-- ==== Sys2Proof/Machine/Resolve.lean ====
section
/-!
DEFINITION. RESOLVE (Chapter 3): the gate checks, the source stage, the destination stage, learning
and the close, in that order and as one table operation (R37, R38).
-/

namespace Sys2Proof.Machine

/-- The DROP verdict with a reason: an empty port set (R57, R62). -/
def dropped (r : Reason) : Verdict := ⟨.drop, 0, r⟩

/-- Lane `l` is in a lane set. -/
def memberOf (l : LaneNo) (m : LaneSet) : Bool := m.getLsbD l.val

/-- The set {l}. -/
def onlyLane (l : LaneNo) : LaneSet := BitVec.twoPow 8 l.val

/-- A lane set with lane `l` removed. -/
def without (l : LaneNo) (m : LaneSet) : LaneSet := m &&& ~~~onlyLane l

/-- The gate checks (R40, R41, R42): the reason of the DROP, when one is drawn. -/
def gateChecks (i : ResolveInput) : Option Reason :=
  if !i.copy.enabled then some .domainOff
  else if !memberOf i.lane i.copy.members then some .notMember
  else if addressClass i.source ≠ .unicast then some .badSource
  else none

/-! ### The source stage -/

/-- The entry's life once its station has been heard as a source: hit yes, and STALE made LIVE (R44). -/
def heard : Life → Life
  | .new a o => .new { a with hit := true } o
  | .live a => .live { a with hit := true }
  | .stale a => .live { a with hit := true }
  | .pinned => .pinned

/-- A counted move of a LIVE entry to lane `l` under a move limit: the new fields, and whether the entry
has become frozen (R48, R36). -/
def movedAging (limit : Nat) (a : Aging) : Aging × Bool :=
  let moves := satAdd Config.movesTop a.moves 1
  let freezes := limit ≠ 0 ∧ limit ≤ moves
  ({ a with moves := moves, frozen := a.frozen || decide freezes }, decide freezes)

/-- The re-home of the LIVE source entry at `ref`: home, moves, the lane's moves statistic, and the
freeze with its statistic and cause (R48). -/
def rehome (ref : Nat) (o : Occupant) (a : Aging) (l : LaneNo) (limit : Nat) (s : State) : State :=
  let (a', freezes) := movedAging limit a
  let t := onLaneStats l (fun st => { st with moves := raise32 st.moves })
    (setOccupant ref { o with place := .unicast l, life := .live a' } s)
  if freezes then
    raiseCause .moveFrozen (onTableStats (fun st => { st with frozen := raise32 st.frozen }) t)
  else t

/-- The home test of a source entry `o`, already heard (R46, R47, R48, R49): the state after it, and the
reason of the DROP, when one is drawn. -/
def homeTest (ref : Nat) (o : Occupant) (i : ResolveInput) (s : State) : State × Option Reason :=
  if o.place = .unicast i.lane then (s, none)
  else
    match o.life with
    | .pinned => (s, some .pinnedElsewhere)
    | .new _ _ => (setOccupant ref { o with place := .unicast i.lane } s, none)
    | .live a | .stale a =>
      if a.frozen then (s, some .moveFrozen)
      else (rehome ref o a i.lane i.copy.moveLimit s, none)

/-- The meter of the source entry at `ref` (R50): skipped when there is none or its profile is disabled;
otherwise brought up to date, and its credit tested. -/
def applyMeter (ref : Nat) (l : LaneNo) (s : State) : State × Option Reason :=
  match activeMeter s ref with
  | none => (s, none)
  | some (_, m, p) =>
    let t := bringUpEntry ref s
    if 0 < (broughtUp p s.ms m).credit then (t, none)
    else
      match p.action with
      | .drop => (chargeEntry ref .meterDrop t, some .meter)
      | .pause => (onLane l (pauseDemand p.quantum) t, none)

/-- The source stage on the entry found at `ref` (R44 to R50). -/
def knownSource (ref : Nat) (o : Occupant) (i : ResolveInput) (s : State) : State × Option Reason :=
  let o' := { o with life := heard o.life }
  let s' := setOccupant ref o' s
  if o.sourcePolicy = .deny then (s', some .sourceDenied)
  else
    match homeTest ref o' i s' with
    | (t, some r) => (t, some r)
    | (t, none) => applyMeter ref i.lane t

/-- The source stage (R43): the state after it, the source entry's pair when S is known, and the reason
of the DROP, when one is drawn. -/
def sourceStage (i : ResolveInput) (s : State) : State × Option Pair × Option Reason :=
  match searchKey s ⟨i.domain, i.source⟩ with
  | none => (s, none, none)
  | some ref =>
    match (entryAt s ref).occupant with
    | none => (s, none, none)
    | some o =>
      let (t, r) := knownSource ref o i s
      (t, some (pairAt s ref), r)

/-! ### The destination stage -/

/-- The verdict of an unknown-destination policy: FLOOD to the flood set with a reason, or DROP
UNKNOWN_DROPPED (R34). -/
def unknownVerdict (p : UnknownPolicy) (floodSet : LaneSet) (r : Reason) : Verdict :=
  match p with
  | .flood => ⟨.flood, floodSet, r⟩
  | .drop => dropped .unknownDropped

/-- A group destination (R53). -/
def groupVerdict (i : ResolveInput) (found : Option Occupant) (floodSet : LaneSet) : Verdict :=
  match found with
  | none => unknownVerdict i.copy.unknownGroup floodSet .unknownGroup
  | some o =>
    if o.destinationPolicy = .deny then dropped .destDenied
    else
      match o.place with
      | .group members => ⟨.forward, without i.lane (members &&& i.copy.members), .none⟩
      | .unicast home => ⟨.forward, without i.lane (onlyLane home &&& i.copy.members), .none⟩

/-- A unicast destination found LIVE, STALE or PINNED (R55). No unicast key has a group place (R11): that
case is the model's total extension (DESIGN CHOICE, log 12). -/
def settledVerdict (i : ResolveInput) (o : Occupant) : Verdict :=
  if o.destinationPolicy = .deny then dropped .destDenied
  else
    match o.place with
    | .group members => ⟨.forward, without i.lane (members &&& i.copy.members), .none⟩
    | .unicast home =>
      if home = i.lane then dropped .sameLane
      else if !memberOf home i.copy.members then dropped .homeOutside
      else ⟨.forward, onlyLane home, .none⟩

/-- A unicast destination (R54, R55, R56). -/
def unicastVerdict (i : ResolveInput) (found : Option Occupant) (floodSet : LaneSet) : Verdict :=
  match found with
  | none => unknownVerdict i.copy.unknownUnicast floodSet .unknownUnicast
  | some o =>
    match o.life with
    | .new _ _ => unknownVerdict i.copy.unknownUnicast floodSet .newDest
    | _ => settledVerdict i o

/-- A FORWARD or FLOOD whose port set is empty becomes DROP EMPTY_SET (R57). -/
def emptySetRule (v : Verdict) : Verdict :=
  if v.action ≠ .drop ∧ v.ports = 0 then dropped .emptySet else v

/-- The destination stage (R51): the verdict, and the ref of the unicast destination a FORWARD goes to.
It reads entries and changes none. -/
def destinationStage (i : ResolveInput) (s : State) : Verdict × Option Nat :=
  let floodSet := without i.lane i.copy.members
  let found := searchKey s ⟨i.domain, i.destination⟩
  let occupant := found.bind fun ref => (entryAt s ref).occupant
  match addressClass i.destination with
  | .broadcast => (emptySetRule ⟨.flood, floodSet, .broadcast⟩, none)
  | .group => (emptySetRule (groupVerdict i occupant floodSet), none)
  | .unicast =>
    let v := emptySetRule (unicastVerdict i occupant floodSet)
    (v, if v.action = .forward then found else none)

/-! ### Learning -/

/-- Learning is attempted (R58). -/
def learningDue (i : ResolveInput) (source : Option Pair) (v : Verdict) (s : State) : Bool :=
  source.isNone && v.action != .drop && i.copy.learning && (laneAt s i.lane).learning

/-- The entry learning allocates, but for its counter set (R59). -/
def learnedOccupant (i : ResolveInput) (s : State) : Occupant where
  key := ⟨i.domain, i.source⟩
  place := .unicast i.lane
  sourcePolicy := .allow
  destinationPolicy := .allow
  life := .new ⟨true, 0, false⟩ ⟨i.lane, i.tag⟩
  meter := i.copy.defaultProfile.map fun p => newMeter p s
  counterSet := none

/-- The counter set of a learned entry: the lowest FREE one with auto-count on, or none (R35, R59). -/
def autoCount (i : ResolveInput) (ref : Nat) (s : State) : State :=
  if i.copy.autoCount then (requestSet .any ref s).1 else s

/-- A successful allocation at learning (R59, R60). -/
def learnAt (ref : Nat) (i : ResolveInput) (s : State) : State :=
  onLaneStats i.lane (fun st => { st with learns := raise32 st.learns })
    (onTableStats (fun st => { st with learned := raise32 st.learned })
      (autoCount i ref (allocate ref (learnedOccupant i s) s)))

/-- A failed allocation at learning (R61). -/
def learnFailure (i : ResolveInput) (s : State) : State :=
  raiseCause .tableFull
    (onLaneStats i.lane (fun st => { st with learnFailures := raise32 st.learnFailures })
      (onTableStats (fun st => { st with learnFailures := raise32 st.learnFailures }) s))

/-- Learning of the source (R58 to R61): the state after it, and the new entry's pair. -/
def learn (i : ResolveInput) (s : State) : State × Option Pair :=
  match freePlace s ⟨i.domain, i.source⟩ with
  | none => (learnFailure i s, none)
  | some ref =>
    let t := learnAt ref i s
    (t, some (pairAt t ref))

/-! ### The stages in order -/

/-- The destination stage and learning, after a source stage that has not dropped the frame. A DROP drawn
here hands back no tag record (R62). -/
def deliverAndLearn (i : ResolveInput) (source : Option Pair) (s : State) : State × ResolveResult :=
  let (v, dest) := destinationStage i s
  let destination := dest.map (pairAt s)
  if learningDue i source v s then
    let (t, learned) := learn i s
    (t, ⟨v, learned, learned.isSome, destination⟩)
  else if v.action = .drop then (s, ⟨v, none, false, none⟩)
  else (s, ⟨v, source, false, destination⟩)

/-- The stages of a resolve up to its close (R37, R38): the state after them and what is handed back. A
DROP hands back no tag record (R62). -/
def resolveStages (i : ResolveInput) (s : State) : State × ResolveResult :=
  match gateChecks i with
  | some r => (s, ⟨dropped r, none, false, none⟩)
  | none =>
    match sourceStage i s with
    | (t, _, some r) => (t, ⟨dropped r, none, false, none⟩)
    | (t, source, none) => deliverAndLearn i source t

/-! ### The table operation -/

/-- The lane and item of a grant that would be a resolve: the arbiter's choice is a lane whose head item
is a LOOKUP item (R21). -/
def resolveOffer (s : State) : Option ResolveInput :=
  match nextGrant s with
  | none => none
  | some k =>
    if h : k.val < 8 then
      match (laneAt s ⟨k.val, h⟩).queue with
      | .lookup t d dst src :: _ => some ⟨⟨k.val, h⟩, t, d, dst, src, domainAt s d⟩
      | _ => none
    else none

/-- The grant of a resolve: the item is taken in hand and the domain record is read, once (R27, R37). -/
def grantResolve (s : State) : State :=
  match resolveOffer s with
  | none => s
  | some i => onLane i.lane takeInHand (grantTo (i.lane.castLE (by decide)) (.resolving i) s)

/-- The effects of a granted resolve on the table and its deliveries to other blocks (R38, R39). -/
def performResolve (s : State) : State :=
  match s.engine with
  | .resolving i =>
    let (t, r) := resolveStages i s
    { t with engine := .resolved i r s.occupancy }
  | _ => s

/-- The close of a resolve: SPILL_HIGH where R15 applies, and the result handed back to the lane (R39,
R134). -/
def closeResolve (s : State) : State :=
  match s.engine with
  | .resolved i r before =>
    raiseSpillHigh before
      (onLane i.lane (takeVerdict i.tag r s.ms) { s with engine := .idle })
  | _ => s

/-- The end of a resolve in progress, its effects made first when they are still to come. -/
def finishResolve (s : State) : State := closeResolve (performResolve s)

/-- RESOLVE (R37): at a lane's grant the head LOOKUP item is resolved. Nothing happens when the engine's
next grant would not be a resolve, or when no resolve is in progress to go on with. -/
def execResolve (part : LaneOpPart) (s : State) : Host.Outcome State Fault Refusal :=
  match part with
  | .whole => act (fun s => if (resolveOffer s).isSome then finishResolve (grantResolve s) else s) s
  | .grant => act grantResolve s
  | .perform => act performResolve s
  | .finish => act finishResolve s

end Sys2Proof.Machine
end

