-- ==== Sys2Proof/Machine/Settle.lean ====
section
/-!
DEFINITION. SETTLE_OPERATION (Chapter 7, section 7.7): the source part with its charge, debit and
confirmation or rejection, the destination part, lost charges, and the handing back of the result.
-/

namespace Sys2Proof.Machine

/-- The tag is the origin tag of a NEW entry with this origin: lane and number match, and its record
says created yes (R3, R68). -/
def isOriginTag (i : SettleInput) (o : Origin) : Bool :=
  i.record.created && o.lane == i.lane && o.tag == i.tag

/-- Confirmation or rejection of the source entry at `ref`: with GOOD a NEW entry becomes LIVE and loses
its origin (R67); with BAD it is retired when the tag is its origin tag (R68). -/
def confirmOrReject (i : SettleInput) (ref : Nat) (s : State) : State :=
  match (entryAt s ref).occupant with
  | none => s
  | some o =>
    match o.life with
    | .new a origin =>
      if i.good then setOccupant ref { o with life := .live a } s
      else if isOriginTag i origin then retire ref .settleBad s
      else s
    | _ => s

/-- The source charge of a settle (Table 6-2). -/
def sourceCharge (i : SettleInput) : Charge :=
  if i.good then .sourceGood i.byteCount else .sourceBad

/-- The source part on a current source at `ref`: the charge, then the debit, then confirmation or
rejection (R135). -/
def settleSource (i : SettleInput) (ref : Nat) (s : State) : State :=
  confirmOrReject i ref (debitEntry ref i.byteCount.toNat (chargeEntry ref (sourceCharge i) s))

/-- The part of a settle for one recorded pair: `work` on its ref when it is current; and whether it was
recorded and found stale (R135, R136). -/
def settlePart (p : Option Pair) (work : Nat → State → State) (s : State) : State × Bool :=
  match p with
  | none => (s, false)
  | some p => if current s p then (work p.ref s, false) else (s, true)

/-- The destination part on a current destination at `ref`: a destination charge with GOOD (R136). -/
def settleDestination (i : SettleInput) (ref : Nat) (s : State) : State :=
  if i.good then chargeEntry ref .destination s else s

/-- The settle operation's effects: source part, destination part, and one lost charge when a recorded
pair was stale (R135, R136). -/
def settleWork (i : SettleInput) (s : State) : State :=
  let (s1, lostSource) := settlePart i.record.source (settleSource i) s
  let (s2, lostDestination) := settlePart i.record.destination (settleDestination i) s1
  if lostSource || lostDestination then
    onLaneStats i.lane (fun st => { st with lostCharges := raise32 st.lostCharges }) s2
  else s2

/-- The lane and item of a grant that would be a settle operation: the arbiter's choice is a lane whose
head item is a SETTLE item, with the record of its CLOSING tag (R21, R135). -/
def settleOffer (s : State) : Option SettleInput :=
  match nextGrant s with
  | none => none
  | some k =>
    if h : k.val < 8 then
      match (laneAt s ⟨k.val, h⟩).queue with
      | .settle t good bytes :: _ =>
        match tagOf (laneAt s ⟨k.val, h⟩) t with
        | .closing record => some ⟨⟨k.val, h⟩, t, record, good, bytes⟩
        | _ => none
      | _ => none
    else none

/-- The grant of a settle operation: the item is taken in hand (R133). -/
def grantSettle (s : State) : State :=
  match settleOffer s with
  | none => s
  | some i => onLane i.lane takeInHand (grantTo (i.lane.castLE (by decide)) (.settling i) s)

/-- The effects of a granted settle operation. -/
def performSettle (s : State) : State :=
  match s.engine with
  | .settling i => { settleWork i s with engine := .settled i.lane i.tag s.occupancy }
  | _ => s

/-- The result of a settle operation is handed back to its lane (R137). -/
def closeSettle (s : State) : State :=
  match s.engine with
  | .settled l t _ => onLane l (takeSettled t) { s with engine := .idle }
  | _ => s

/-- The end of a settle operation in progress, its effects made first when they are still to come. -/
def finishSettle (s : State) : State := closeSettle (performSettle s)

/-- SETTLE_OPERATION (R135): at a lane's grant the head SETTLE item is settled. Nothing happens when the
engine's next grant would not be a settle operation, or when none is in progress to go on with. -/
def execSettleOperation (part : LaneOpPart) (s : State) : Host.Outcome State Fault Refusal :=
  match part with
  | .whole => act (fun s => if (settleOffer s).isSome then finishSettle (grantSettle s) else s) s
  | .grant => act grantSettle s
  | .perform => act performSettle s
  | .finish => act finishSettle s

end Sys2Proof.Machine
end

