-- ==== Sys2Proof/Machine/Timebase.lean ====
section
/-!
DEFINITION. The Timebase (R180): the microsecond tick, at which the pause records count down, and the
millisecond tick, at which the age timer and the settle timers are tested.
-/

namespace Sys2Proof.Machine

/-- A microsecond tick: the sub-millisecond count rises, the pause records count down (R96), and the
next tick runs under the divider last stored (R180). -/
def microsecondTick (s : State) : State :=
  onEveryLane countDownPause { s with subMs := s.subMs + 1, tickDivider := s.divider }

/-- MICROSECOND_TICK (R180). A count that has reached 1000 returns to 0 at the millisecond tick before it
counts on, so until then no further microsecond tick is due and nothing happens (DESIGN CHOICE, logs 2 and
5). -/
def execMicrosecondTick (s : State) : Host.Outcome State Fault Refusal :=
  act (fun s => if s.subMs < Config.ticksPerMs then microsecondTick s else s) s

/-- The age timer counts down by one millisecond (R71). -/
def countDownAge (t : Option Nat) : Option Nat := t.map (· - 1)

/-- A millisecond tick: the sub-millisecond count returns to 0, the millisecond counter rises modulo
2^32, the age timer counts down and the settle timers are tested (R71, R128, R180). -/
def millisecondTick (s : State) : State :=
  onEveryLane (testTimers (s.ms + 1))
    { s with subMs := 0, ms := s.ms + 1, ageTimer := countDownAge s.ageTimer }

/-- MILLISECOND_TICK (R180): due when the sub-millisecond count has reached 1000; nothing happens
otherwise (DESIGN CHOICE, log 2). -/
def execMillisecondTick (s : State) : Host.Outcome State Fault Refusal :=
  act (fun s => if s.subMs = Config.ticksPerMs then millisecondTick s else s) s

end Sys2Proof.Machine
end

