-- ==== Sys2Proof/Machine/Walks.lean ====
section
/-!
DEFINITION. The walks FLUSH, COUNT and SEARCH (Chapter 9): one command of the model is one step of the
walk, which is one table operation (R162).
-/

namespace Sys2Proof.Machine

/-- The class part of a selector is met (R163). -/
def classMet (c : WalkClass) (l : Life) : Bool :=
  match c with
  | .learned => (agingOf l).isSome
  | .pinned => (agingOf l).isNone
  | .both => true

/-- The kind part of a selector is met (R163). -/
def kindMet (k : WalkKind) (p : Place) : Bool :=
  match k, p with
  | .both, _ => true
  | .unicast, .unicast _ => true
  | .group, .group _ => true
  | _, _ => false

/-- The lane part of a selector is met: ANY, or a UNICAST entry homed at the lane (R163). -/
def laneMet (l : Option LaneNo) (p : Place) : Bool :=
  match l, p with
  | none, _ => true
  | some l, .unicast home => l == home
  | some _, .group _ => false

/-- An occupied entry matches a selector when it meets all four parts (R163). -/
def occupantMatches (q : Selector) (o : Occupant) : Bool :=
  (match q.domain with
    | none => true
    | some d => d == o.key.domain) &&
  laneMet q.lane o.place && classMet q.cls o.life && kindMet q.kind o.place

/-- The entry at `ref` matches a selector; a FREE entry matches none (R163). -/
def matchesAt (q : Selector) (s : State) (ref : Nat) : Bool :=
  match (entryAt s ref).occupant with
  | none => false
  | some o => occupantMatches q o

/-- What a walk's step finds: the state after it, how much the tally rises, and the ref SEARCH found. -/
abbrev StepFound := State × Nat × Option Nat

/-- FLUSH examines one entry: a match is retired (R165). -/
def flushAt (q : Selector) (acc : State × Nat) (ref : Nat) : State × Nat :=
  if matchesAt q acc.1 ref then (retire ref .flushMatch acc.1, acc.2 + 1) else acc

/-- A FLUSH step, in order of ref (R165). -/
def flushStep (q : Selector) (w : Walk) (s : State) : StepFound :=
  let (t, n) := (stepRefs w.cursor).foldl (flushAt q) (s, 0)
  (t, n, none)

/-- A COUNT step (R166). -/
def countStep (q : Selector) (w : Walk) (s : State) : StepFound :=
  (s, ((stepRefs w.cursor).filter (matchesAt q s)).length, none)

/-- A SEARCH step: the matching entry of lowest ref among those at or after the start ref (R167). -/
def searchStep (q : Selector) (w : Walk) (s : State) : StepFound :=
  (s, 0, (stepRefs w.cursor).find? fun ref => w.startRef.toNat ≤ ref && matchesAt q s ref)

/-- The walk's progress after a step (R162). -/
def advanced (w : Walk) (n : Nat) : Walk :=
  { w with cursor := w.cursor + 1, stepsDone := w.stepsDone + 1, tally := w.tally + n }

/-- The walk after a step: ABORTED when it was marked aborted; OK with SEARCH's find; the end after step
2055; otherwise RUNNING on (R145, R167, R169). `atEnd` is the status of running to the end. -/
def afterStep (n : SlotNo) (b : Block) (w : Walk) (atEnd : Status) (found : Option Nat) (s : State) :
    State :=
  if w.aborted then complete n b .aborted (walkValues w) s
  else
    match found with
    | some ref => complete n b .ok (walkValues w ++ entryImage ref (entryAt s ref)) s
    | none =>
      if Config.walkSteps ≤ w.cursor then complete n b atEnd (walkValues w) s
      else { s with walk := some w }

/-- The operands a walk tests at its first grant; `none` where R164 refuses one. For SEARCH that includes a
start ref above 8255, which FLUSH and COUNT do not hold. -/
def walkOperands (w : Walk) : Option Selector :=
  if Config.allRefs ≤ w.startRef.toNat then none else selectorOf w

/-- One grant of a walk with code `c`: the operand test at the first, then the step at the cursor (R164). A
walk marked aborted during the grant that refuses its operands ends ABORTED (DEDUCED, log 10). -/
def walkWork (c : Byte) (step : Selector → Walk → State → StepFound) (atEnd : Status) (s : State) :
    State :=
  match runningCode c s, s.walk with
  | some (n, b), some w =>
    match walkOperands w with
    | none => complete n b (if w.aborted then .aborted else .badArg) (walkValues w) s
    | some q =>
      let (t, k, found) := step q w s
      afterStep n b (advanced w k) atEnd found t
  | _, _ => s

/-- FLUSH (R165): one step of the walk. -/
def execFlush (part : OpPart) (s : State) : Host.Outcome State Fault Refusal :=
  commandOperation 0x10 (walkWork 0x10 flushStep .ok) part s

/-- COUNT (R166): one step of the walk. -/
def execCount (part : OpPart) (s : State) : Host.Outcome State Fault Refusal :=
  commandOperation 0x11 (walkWork 0x11 countStep .ok) part s

/-- SEARCH (R167): one step of the walk. -/
def execSearch (part : OpPart) (s : State) : Host.Outcome State Fault Refusal :=
  commandOperation 0x12 (walkWork 0x12 searchStep .notFound) part s

end Sys2Proof.Machine
end

