-- ==== Sys2Proof/Machine/Dispatch.lean ====
section
/-!
DEFINITION. The dispatch: one arm for each command, calling its meaning.
-/

namespace Sys2Proof.Machine

/-- The effect of a command on everything but the queue. -/
def exec (i : Instr) (s : State) : Host.Outcome State Fault Refusal :=
  match i with
  | .lookup lane opening tag domain destination source => Sys2Proof.Machine.execLookup lane opening tag domain destination source s
  | .settle lane opening tag outcome byteCount => Sys2Proof.Machine.execSettle lane opening tag outcome byteCount s
  | .restart lane opening => Sys2Proof.Machine.execRestart lane opening s
  | .transmitMessage lane => Sys2Proof.Machine.execTransmitMessage lane s
  | .resolve part => Sys2Proof.Machine.execResolve part s
  | .settleOperation part => Sys2Proof.Machine.execSettleOperation part s
  | .settleTimeout lane tag => Sys2Proof.Machine.execSettleTimeout lane tag s
  | .ageTick => Sys2Proof.Machine.execAgeTick s
  | .sweepStep part => Sys2Proof.Machine.execSweepStep part s
  | .pauseExpiry lane => Sys2Proof.Machine.execPauseExpiry lane s
  | .microsecondTick => Sys2Proof.Machine.execMicrosecondTick s
  | .millisecondTick => Sys2Proof.Machine.execMillisecondTick s
  | .commandStart => Sys2Proof.Machine.execCommandStart s
  | .insert part => Sys2Proof.Machine.execInsert part s
  | .update part => Sys2Proof.Machine.execUpdate part s
  | .remove part => Sys2Proof.Machine.execRemove part s
  | .removeKey part => Sys2Proof.Machine.execRemoveKey part s
  | .find part => Sys2Proof.Machine.execFind part s
  | .read part => Sys2Proof.Machine.execRead part s
  | .attach part => Sys2Proof.Machine.execAttach part s
  | .detach part => Sys2Proof.Machine.execDetach part s
  | .setHash part => Sys2Proof.Machine.execSetHash part s
  | .setSpillMark part => Sys2Proof.Machine.execSetSpillMark part s
  | .readTableStats part => Sys2Proof.Machine.execReadTableStats part s
  | .flush part => Sys2Proof.Machine.execFlush part s
  | .count part => Sys2Proof.Machine.execCount part s
  | .search part => Sys2Proof.Machine.execSearch part s
  | .setDomain => Sys2Proof.Machine.execSetDomain s
  | .readDomain => Sys2Proof.Machine.execReadDomain s
  | .setProfile => Sys2Proof.Machine.execSetProfile s
  | .readProfile => Sys2Proof.Machine.execReadProfile s
  | .readCounters => Sys2Proof.Machine.execReadCounters s
  | .reclaim => Sys2Proof.Machine.execReclaim s
  | .setPool => Sys2Proof.Machine.execSetPool s
  | .setAging => Sys2Proof.Machine.execSetAging s
  | .sweepNow => Sys2Proof.Machine.execSweepNow s
  | .laneEnable => Sys2Proof.Machine.execLaneEnable s
  | .laneSet => Sys2Proof.Machine.execLaneSet s
  | .laneDisable => Sys2Proof.Machine.execLaneDisable s
  | .laneRelease => Sys2Proof.Machine.execLaneRelease s
  | .readLaneStats => Sys2Proof.Machine.execReadLaneStats s
  | .pauseCancel => Sys2Proof.Machine.execPauseCancel s
  | .submit value => Sys2Proof.Machine.execSubmit value s
  | .retire value => Sys2Proof.Machine.execRetire value s
  | .abort value => Sys2Proof.Machine.execAbort value s
  | .interruptPending value => Sys2Proof.Machine.execInterruptPending value s
  | .interruptEnable value => Sys2Proof.Machine.execInterruptEnable value s
  | .timebaseDivider value => Sys2Proof.Machine.execTimebaseDivider value s
  | .millisecondCounterLowRead => Sys2Proof.Machine.execMillisecondCounterLowRead s
  | .resetWord value => Sys2Proof.Machine.execResetWord value s
  | .resetPin => Sys2Proof.Machine.execResetPin s
  | .resetPinRelease => Sys2Proof.Machine.execResetPinRelease s
  | .registerWrite address value => Sys2Proof.Machine.execRegisterWrite address value s
  | .malformedMessage lane opening body => Sys2Proof.Machine.execMalformedMessage lane opening body s

end Sys2Proof.Machine
end

