-- ==== Sys2Proof/Safety.lean ====
section
/-!
DEFINITION. What counts as a safe state of the part, in the terms the claims use: the laws the manual
says the part keeps, each as a predicate on a state. They are stated over the reads of Machine/Ops.lean,
so they say the same of any two stores that read alike.
-/

namespace Sys2Proof.Machine

/-! ### The stores' canonical form -/

/-- Every store is in its canonical form, so that equal tables are equal data. -/
structure StoresCanonical (s : State) : Prop where
  entries : canonical Entry.reset s.entries
  domains : canonical Domain.reset s.domains
  profiles : canonical Profile.reset s.profiles
  counterSets : canonical CounterSet.reset s.counterSets
  lanes : canonical Lane.reset s.lanes
  tags : ∀ l : LaneNo, canonical Tag.reset (laneAt s l).tags
  slots : canonical Slot.empty s.slots
  submission : canonical (0 : Word16) s.submission

/-! ### Values in range -/

/-- The settings and counts that are not tables stand within the values the manual gives them (R15,
R18, R71, R74, R102, R178, R179, R180). By log 5 the sub-millisecond count may stand at 1000, and the age timer
at 0, until the happening that is due is taken. -/
structure SettingsLegal (s : State) : Prop where
  spillMark : s.spillMark ≤ 64
  orphanMark : s.orphanMark ≤ 1024
  agePeriod : s.agePeriod ≤ 4095
  ageTimer : ∀ r, s.ageTimer = some r → r ≤ s.agePeriod * 1000 ∧ s.agePeriod ≠ 0
  sweepCursor : s.sweepCursor ≤ 2055
  sweepIdle : s.sweepRunning = false → s.sweepCursor = 0
  sweeping : s.engine = .sweepStep → s.sweepRunning = true
  divider : s.divider ≠ 0
  tickDivider : s.tickDivider ≠ 0
  subMs : s.subMs ≤ 1000
  irqPending : s.irqPending &&& ~~~causeMask = 0
  irqEnable : s.irqEnable &&& ~~~causeMask = 0

/-- The settings of domains and profiles stand within the values of Tables 2-1 and 5-1. -/
structure RecordsLegal (s : State) : Prop where
  moveLimit : ∀ d : Byte, (domainAt s d).moveLimit ≤ 15
  ceiling : ∀ p : ProfileNo, 1 ≤ (profileAt s p).ceiling ∧ (profileAt s p).ceiling ≤ 16777215
  quantum : ∀ p : ProfileNo, (profileAt s p).quantum ≠ 0

/-! ### Entries -/

/-- The fields of a learned entry in its state: moves at most 15; a NEW entry has moves 0 and frozen no;
a STALE entry has hit no (R12, R76). -/
def lifeLegal : Life → Prop
  | .new a _ => a.moves = 0 ∧ a.frozen = false
  | .live a => a.moves ≤ 15
  | .stale a => a.moves ≤ 15 ∧ a.hit = false
  | .pinned => True

/-- An entry's kind follows its address class, and a GROUP entry is PINNED with a non-empty member set
(R1, R11). -/
def kindLegal (o : Occupant) : Prop :=
  match o.place with
  | .unicast _ => addressClass o.key.address = .unicast
  | .group members => addressClass o.key.address = .group ∧ o.life = .pinned ∧ members ≠ 0

/-- A credit lies between −16,777,215 and the largest ceiling (section 1.2). -/
def creditLegal (o : Occupant) : Prop :=
  ∀ m, o.meter = some m → -16777215 ≤ m.credit ∧ m.credit ≤ 16777215

/-- Every occupied entry is as R1, R11, R12, R76 and R93 say. -/
def EntriesLegal (s : State) : Prop :=
  ∀ ref o, (entryAt s ref).occupant = some o → lifeLegal o.life ∧ kindLegal o ∧ creditLegal o

/-! ### The table's laws -/

/-- The entry at `ref` is occupied. -/
def isOccupied (s : State) (ref : Nat) : Bool := (entryAt s ref).occupant.isSome

/-- Each occupancy count equals the number of entries in that condition (R14), and no ref above 8255 is
occupied (R4). -/
structure OccupancyTrue (s : State) : Prop where
  main : s.occupancy.main = (List.range 8192).countP (isOccupied s)
  spill : s.occupancy.spill = (List.range' 8192 64).countP (isOccupied s)
  free : s.occupancy.free = (List.range 8256).countP fun ref => !isOccupied s ref
  bound : ∀ ref, 8256 ≤ ref → isOccupied s ref = false

/-- At most one occupied entry holds any one key, and every occupied main entry lies in the bucket its key
hashes to under the present hash select (R9). -/
structure KeysPlaced (s : State) : Prop where
  unique : ∀ r₁ r₂ o₁ o₂, (entryAt s r₁).occupant = some o₁ → (entryAt s r₂).occupant = some o₂ →
    o₁.key = o₂.key → r₁ = r₂
  bucket : ∀ ref o, (entryAt s ref).occupant = some o → ref < 8192 →
    ref / 4 = bucketOf s.hashSelect o.key

/-- A counter set is ORPHANED. -/
def isOrphaned (s : State) (n : Nat) : Bool :=
  match (counterSetAt s n).state with
  | .orphaned _ => true
  | _ => false

/-- Every set an occupied entry names is ATTACHED to it, every ATTACHED set is named by the occupied
entry that owns it, and the orphaned count is the number of ORPHANED sets (R102, R107). -/
structure PoolPaired (s : State) : Prop where
  named : ∀ ref o n, (entryAt s ref).occupant = some o → o.counterSet = some n →
    n < 1024 ∧ (counterSetAt s n).state = .attached (pairAt s ref)
  owned : ∀ n p, (counterSetAt s n).state = .attached p →
    p = pairAt s p.ref ∧ ∃ o, (entryAt s p.ref).occupant = some o ∧ o.counterSet = some n
  free : ∀ n, (counterSetAt s n).state = .free → (counterSetAt s n).counts = .zero
  orphaned : s.orphaned = (List.range 1024).countP (isOrphaned s)
  bound : ∀ n, 1024 ≤ n → counterSetAt s n = .reset

/-! ### The lanes' laws -/

/-- The tag of an item. -/
def itemTag : Item → TagNo
  | .lookup t _ _ _ => t
  | .settle t _ _ => t

/-- A tag is in the state its item needs: a LOOKUP item belongs to a QUEUED tag and a SETTLE item to a
CLOSING tag (R122). -/
def itemMatches (x : Lane) : Item → Prop
  | .lookup t _ _ _ => tagOf x t = .queued
  | .settle t _ _ => ∃ r, tagOf x t = .closing r

/-- The items that stand for a tag: the work queue, and the item in hand unless it is cancelled (R133). -/
def liveItems (x : Lane) : List Item :=
  x.queue ++
    (match x.inHand with
      | some ⟨item, false⟩ => [item]
      | _ => [])

/-- The laws of one lane (R122, R100): every item belongs to a tag in its state, each tag has at most one
item, a DOWN or HELD lane has no open tag and an empty queue, and a PAUSING record belongs to a READY
lane. -/
structure LaneLawful (x : Lane) : Prop where
  items : ∀ i ∈ liveItems x, itemMatches x i
  oneEach : ((liveItems x).map itemTag).Nodup
  closed : x.state = .down ∨ x.state = .held →
    (∀ t, isOpen (tagOf x t) = false) ∧ x.queue = []
  pausing : x.state ≠ .ready → x.pause = .idle

/-- The kinds of item, which are the kinds of a lane's table operation (R133). -/
inductive ItemKind where
  | lookup
  | settle
deriving DecidableEq, Repr

/-- The kind of an item. -/
def itemKind : Item → ItemKind
  | .lookup _ _ _ _ => .lookup
  | .settle _ _ _ => .settle

/-- The item a lane has in hand by the table operation in progress: a LOOKUP item for a resolve and a SETTLE
item for a settle operation, under the operation's tag (R133). -/
def inHandOf : Engine → LaneNo → Option (ItemKind × TagNo)
  | .resolving i, l => if i.lane = l then some (.lookup, i.tag) else none
  | .resolved i _ _, l => if i.lane = l then some (.lookup, i.tag) else none
  | .settling i, l => if i.lane = l then some (.settle, i.tag) else none
  | .settled m t _, l => if m = l then some (.settle, t) else none
  | _, _ => none

/-- An item in hand is held exactly by the lane whose operation is in progress, under that operation's
tag, and is of the kind of that operation (R133). -/
structure HandsMatch (s : State) : Prop where
  item : ∀ l, ((laneAt s l).inHand.map fun h => (itemKind h.item, itemTag h.item)) =
    inHandOf s.engine l

/-- Every lane keeps its laws and the items in hand match the engine (R122, R133). -/
structure LanesLawful (s : State) : Prop where
  lane : ∀ l : LaneNo, LaneLawful (laneAt s l)
  hands : HandsMatch s

/-! ### The Command Unit's laws -/

/-- A slot is PENDING. -/
def isPending : Slot → Bool
  | .pending _ => true
  | _ => false

/-- A slot is RUNNING. -/
def isRunning : Slot → Bool
  | .running _ => true
  | _ => false

/-- The submission order holds the numbers of the PENDING slots, with no number twice (R140), and at most
one slot is RUNNING (R142). -/
structure SlotsOrdered (s : State) : Prop where
  pending : ∀ n : SlotNo, n ∈ s.order ↔ isPending (slotAt s n) = true
  once : s.order.Nodup
  oneRunning : ∀ n m : SlotNo, isRunning (slotAt s n) = true → isRunning (slotAt s m) = true → n = m

/-! ### The settings in which the claims speak -/

/-- RESET# is high, so that the part takes happenings (R181). -/
abbrev awake (s : State) : Prop := s.resetLow = false

/-- A 32-bit saturating count after one more event. -/
abbrev upOne (n : Nat) : Nat := min (n + 1) 4294967295

/-- The RUNNING command has code `c` and stands in slot `n` with block `b`. -/
structure CommandRunning (c : Byte) (n : SlotNo) (b : Block) (s : State) : Prop where
  awake : awake s
  running : runningCode c s = some (n, b)

/-- A table operation of the RUNNING command with code `c` is in progress. -/
structure CommandGranted (c : Byte) (n : SlotNo) (b : Block) (s : State) : Prop
    extends CommandRunning c n b s where
  granted : s.engine = .command

/-- Slot `n` DONE with its result, COMMAND_DONE pending and no walk held; nothing else changed (R143). -/
def finished (n : SlotNo) (b : Block) (st : Status) (values : List Word16) (s : State) : State :=
  { s with
    slots := put .empty s.slots n.val (.done b ⟨codeOf b, st, values⟩)
    irqPending := s.irqPending ||| 1#16
    walk := none }

/-- The same at the end of a table operation: the engine is idle again. -/
def ended (n : SlotNo) (b : Block) (st : Status) (values : List Word16) (s : State) : State :=
  { finished n b st values s with engine := .idle }

/-- A resolve granted on `i` is in progress and has made no effect yet. -/
structure Resolving (i : ResolveInput) (s : State) : Prop where
  awake : awake s
  engine : s.engine = .resolving i

/-- A resolve in progress that the gate checks do not stop (R40 to R42). -/
structure ResolvingPast (i : ResolveInput) (s : State) : Prop extends Resolving i s where
  enabled : i.copy.enabled = true
  member : i.copy.members.getLsbD i.lane.val = true
  source : addressClass i.source = .unicast

/-- A resolve in progress, past the gate, whose source is known: `o` at `ref` (R43). -/
structure ResolvingKnown (i : ResolveInput) (ref : Nat) (o : Occupant) (s : State) : Prop
    extends ResolvingPast i s where
  found : searchKey s ⟨i.domain, i.source⟩ = some ref
  occupant : (entryAt s ref).occupant = some o

/-- A resolve in progress, past the gate, whose source is unknown (R43). -/
structure ResolvingUnknown (i : ResolveInput) (s : State) : Prop extends ResolvingPast i s where
  notFound : searchKey s ⟨i.domain, i.source⟩ = none

/-- The state after a resolve's effects when the entry at `ref` became occupied by `o` under its
generation, nothing else changed, and `v` is handed back with no tag record. -/
def droppedWith (i : ResolveInput) (ref : Nat) (o : Occupant) (r : Reason) (s : State) : State :=
  { s with
    entries := put .reset s.entries ref ⟨(entryAt s ref).generation, some o⟩
    engine := .resolved i ⟨⟨.drop, 0, r⟩, none, false, none⟩ s.occupancy }

/-- The flood set of a resolve: the members of its domain but the ingress lane (R51). -/
def floodSetOf (i : ResolveInput) : LaneSet :=
  i.copy.members &&& ~~~(BitVec.twoPow 8 i.lane.val)

/-- FLOOD to the flood set with reason `r`, or DROP EMPTY_SET when that set is empty (R57). -/
def floodVerdict (i : ResolveInput) (r : Reason) : Verdict :=
  if floodSetOf i = 0 then ⟨.drop, 0, .emptySet⟩ else ⟨.flood, floodSetOf i, r⟩

/-- The meter of an occupant brought up to now, when its profile is enabled (R91, R92). -/
def meterNow (s : State) (o : Occupant) : Option Meter :=
  o.meter.map fun m =>
    let p := profileAt s m.profile
    if p.enabled then
      ⟨m.profile, min (p.ceiling : Int) (m.credit + ((s.ms - m.stamp).toNat * p.refill.toNat : Nat)),
        s.ms⟩
    else m

/-- The destination stage's rules (R51 to R57) on the table of `s`: which verdict is drawn and which pair is
kept as destination, by the class of the destination and the entry found for it. -/
def DestinationRules (i : ResolveInput) (s : State) (answers : Verdict → Option Pair → Prop) : Prop :=
  (addressClass i.destination = .broadcast → answers (floodVerdict i .broadcast) none) ∧
  (addressClass i.destination = .group →
    (searchKey s ⟨i.domain, i.destination⟩ = none →
      (i.copy.unknownGroup = .flood → answers (floodVerdict i .unknownGroup) none) ∧
      (i.copy.unknownGroup = .drop → answers ⟨.drop, 0, .unknownDropped⟩ none)) ∧
    (∀ ref o, searchKey s ⟨i.domain, i.destination⟩ = some ref →
      (entryAt s ref).occupant = some o →
      (o.destinationPolicy = .deny → answers ⟨.drop, 0, .destDenied⟩ none) ∧
      (∀ members, o.destinationPolicy = .allow → o.place = .group members →
        let ports := members &&& floodSetOf i
        (ports ≠ 0 → answers ⟨.forward, ports, .none⟩ none) ∧
        (ports = 0 → answers ⟨.drop, 0, .emptySet⟩ none)))) ∧
  (addressClass i.destination = .unicast →
    (searchKey s ⟨i.domain, i.destination⟩ = none →
      (i.copy.unknownUnicast = .flood → answers (floodVerdict i .unknownUnicast) none) ∧
      (i.copy.unknownUnicast = .drop → answers ⟨.drop, 0, .unknownDropped⟩ none)) ∧
    (∀ ref o, searchKey s ⟨i.domain, i.destination⟩ = some ref →
      (entryAt s ref).occupant = some o →
      (∀ a g, o.life = .new a g →
        (i.copy.unknownUnicast = .flood → answers (floodVerdict i .newDest) none) ∧
        (i.copy.unknownUnicast = .drop → answers ⟨.drop, 0, .unknownDropped⟩ none)) ∧
      ((∀ a g, o.life ≠ .new a g) →
        (o.destinationPolicy = .deny → answers ⟨.drop, 0, .destDenied⟩ none) ∧
        (∀ home, o.destinationPolicy = .allow → o.place = .unicast home →
          (home = i.lane → answers ⟨.drop, 0, .sameLane⟩ none) ∧
          (home ≠ i.lane → i.copy.members.getLsbD home.val = false →
            answers ⟨.drop, 0, .homeOutside⟩ none) ∧
          (home ≠ i.lane → i.copy.members.getLsbD home.val = true →
            answers ⟨.forward, BitVec.twoPow 8 home.val, .none⟩ (some (pairAt s ref)))))))

/-- The entry at `ref` names a counter set. -/
def namesSet (s : State) (ref : Nat) : Bool :=
  match (entryAt s ref).occupant with
  | none => false
  | some o => o.counterSet.isSome

/-- The counter set that the occupied entry at `ref` names. -/
def NamesSet (s : State) (ref : Nat) (o : Occupant) (n : Nat) : Prop :=
  (entryAt s ref).occupant = some o ∧ o.counterSet = some n

/-- What the retirement of the occupied entries at `refs` makes of `s` (R13, R14, R106, R107): each FREE under
its kept generation, its set FREE under auto-reclaim and otherwise ORPHANED with the retired key and its
counts kept, and the counts of occupied, free and orphaned. -/
structure RetiredAll (refs : List Nat) (s t : State) : Prop where
  entries : ∀ r ∈ refs, entryAt t r = ⟨(entryAt s r).generation, none⟩
  occupancy : t.occupancy =
    ⟨s.occupancy.main - refs.countP (· < 8192), s.occupancy.spill - refs.countP (8192 ≤ ·),
      s.occupancy.free + refs.length⟩
  others : ∀ n, (∀ r ∈ refs, ∀ o, ¬NamesSet s r o n) → counterSetAt t n = counterSetAt s n
  reclaimed : s.autoReclaim = true → ∀ r ∈ refs, ∀ o n, NamesSet s r o n → counterSetAt t n = .reset
  kept : s.autoReclaim = false → ∀ r ∈ refs, ∀ o n, NamesSet s r o n →
    (∀ r' ∈ refs, r' ≠ r → ∀ o', ¬NamesSet s r' o' n) →
    counterSetAt t n = ⟨.orphaned o.key, (counterSetAt s n).counts⟩
  orphaned : t.orphaned = s.orphaned + if s.autoReclaim then 0 else refs.countP (namesSet s)

/-- ORPHANS_HIGH's bit when retiring the entries at `refs` brings the orphaned count from below to the
watermark (R107), and no bit otherwise. -/
def orphansBit (refs : List Nat) (s : State) : Word16 :=
  if s.autoReclaim = false ∧ s.orphanMark ≠ 0 ∧ s.orphaned < s.orphanMark ∧
      s.orphanMark ≤ s.orphaned + refs.countP (namesSet s) then 0x0800 else 0

/-- The state after a charge `f` to the set a lifetime names, taken when the set is ATTACHED to that lifetime
(R108). -/
def chargedTo (set : Option Nat) (owner : Pair) (f : Counts → Counts) (s : State) : State :=
  match set with
  | none => s
  | some n =>
    if (counterSetAt s n).state = .attached owner then
      { s with
        counterSets := put .reset s.counterSets n ⟨.attached owner, f (counterSetAt s n).counts⟩ }
    else s

/-- A frame received by the destination's station (Table 6-2). -/
def destinationCharge (k : Counts) : Counts := { k with dstFrames := upOne k.dstFrames }

/-- A settle's destination part on the counter sets (R136): with GOOD and a current destination, its set is
charged in `mid`; otherwise the sets are those of `mid`. -/
structure DestinationCharged (i : SettleInput) (s mid t : State) : Prop where
  charged : ∀ d o, i.record.destination = some d → entryAt s d.ref = ⟨d.generation, some o⟩ →
    i.good = true → t.counterSets = (chargedTo o.counterSet d destinationCharge mid).counterSets
  bad : i.good = false → t.counterSets = mid.counterSets
  stale : (∀ d, i.record.destination = some d → current s d = false) → t.counterSets = mid.counterSets

/-- A settle operation granted on `i` is in progress and has made no effect yet. -/
structure Settling (i : SettleInput) (s : State) : Prop where
  awake : awake s
  engine : s.engine = .settling i

/-- A settle operation in progress whose recorded source is current: `o` at the pair's ref (R135). -/
structure SettlingSource (i : SettleInput) (p : Pair) (o : Occupant) (s : State) : Prop
    extends Settling i s where
  recorded : i.record.source = some p
  occupant : entryAt s p.ref = ⟨p.generation, some o⟩

/-- The message a command delivers to a lane: the lane, how the message opens, and what it reads as. -/
def messageOf : Instr → Option (LaneNo × Opening × Received)
  | .lookup l opening tag domain destination source =>
    some (l, opening, .message (.lookup tag domain destination source))
  | .settle l opening tag outcome byteCount =>
    some (l, opening, .message (.settle tag outcome byteCount))
  | .restart l opening => some (l, opening, .message .restart)
  | .malformedMessage l opening body => some (l, opening, readBody body)
  | _ => none

/-- A message on lane `l` has its opening frame mark, and RESET# is high (R182). -/
structure Heard (l : LaneNo) (opening : Opening) (s : State) : Prop where
  awake : awake s
  opened : opening = .own ∨ (laneAt s l).receiveOpen = true

/-- Lane `x` after the close-out of R122, field by field. -/
def closedOut (x : Lane) : Lane :=
  { x with
    tags := []
    queue := []
    inHand := x.inHand.map fun h => { h with cancelled := true }
    pause := .idle
    waiting := []
    stats := { x.stats with
      abandonedTags := min (x.stats.abandonedTags + countTags isOpen x) 4294967295 } }

/-- The part after a lane fault with reason `r` on lane `l` (R123). -/
def faulted (l : LaneNo) (r : FaultReason) (s : State) : State :=
  let x := closedOut (laneAt s l)
  { s with
    irqPending := s.irqPending ||| BitVec.twoPow 16 (1 + l.val)
    lanes := put .reset s.lanes l.val
      { x with
        state := .held
        receiveOpen := true
        waiting := [.fault r]
        stats := { x.stats with faults := upOne x.stats.faults } } }

/-- Lane `x` after a FAULT reply: its receive side has a message open, and the reply waits unless another
FAULT does (R126). -/
def replied (r : FaultReason) (x : Lane) : Lane :=
  { x with
    receiveOpen := true
    waiting := if x.waiting.any isFault then x.waiting else x.waiting ++ [.fault r] }

/-- Entries changed no further than their meters: state, kind, home, policies, key, generation and counter
set are kept. -/
def sameButMeter (e f : Entry) : Prop :=
  e.generation = f.generation ∧
    (e.occupant.map fun o => { o with meter := none }) =
      (f.occupant.map fun o => { o with meter := none })

/-- The commands that may change a PINNED entry beyond its meter: the host's entry commands and FLUSH, and
device reset (R11). -/
def isHostChange : Instr → Bool
  | .update _ | .remove _ | .removeKey _ | .attach _ | .detach _ | .flush _ => true
  | .resetWord _ | .resetPin => true
  | _ => false

end Sys2Proof.Machine
end

