-- ==== Sys2Proof/WellFormed.lean ====
section
/-!
DEFINITION. The checks on a command as syntax. Every operand of every other command takes every value
its type holds; two rows of the table cover only what no other row takes.
-/

namespace Sys2Proof

/-- The window words whose writes have rows of their own: SUBMIT, RETIRE, ABORT, the interrupt words, the
divider and the reset word (Table 11-4). -/
def ownRowWords : List (BitVec 7) := [0x10, 0x11, 0x12, 0x60, 0x61, 0x70, 0x7F]

/-- What stands between two frame marks is a message that fails a test of R121. -/
def isMalformed (body : List Symbol) : Bool :=
  match Machine.readBody body with
  | .malformed _ => true
  | .nothing => false
  | .message _ => false

/-- A command is well formed: a REGISTER_WRITE is to a word that no other row takes, and a
MALFORMED_MESSAGE is malformed. -/
def Instr.wellFormed : Instr → Bool
  | .registerWrite address _ => !ownRowWords.contains address
  | .malformedMessage _ _ body => isMalformed body
  | _ => true

end Sys2Proof
end

