-- ==== Sys2Proof/Certificates/Slice0/Obligations.lean ====
section
/-!
DEFINITION. The statements for the provers, in the order of OBLIGATIONS.json: the queue and device
reset, lane messages, the lanes' table operations, the sweep and the Timebase, the host's commands and
accesses, and the laws that every step keeps.
-/

open Sys2Proof Sys2Proof.Machine

/-! ### The queue, the pin and device reset -/

/-- A step runs the command at the front of the queue, and the block idles on an empty one (log 1). -/
def Obligations.StepTakesFrontCommand : Prop :=
  (∀ (c : Instr) (rest : List Instr) (s : State), s.pending = c :: rest →
    step s = exec c (s.withPending rest)) ∧
  ∀ s : State, s.pending = [] → step s = .next s

/-- Device reset by the reset word and by the pin, other values ignored, and the pin's release; while RESET#
stays low no other command changes anything, every word reads 0, INT# is high and the transmit lines carry
idle (R181, R187). That the queue outlives the reset (log 1), that the model's own field readData goes back to 0
(log 8) and that the tick in progress stands under a divider of 50 (log 15) are the model's choices. -/
def Obligations.DeviceResetAndPin : Prop :=
  ((∀ s : State, awake s →
     exec (.resetWord 0x5A17) s = .next { State.reset with pending := s.pending }) ∧
   (∀ (v : Word16) (s : State), awake s → v ≠ 0x5A17 → exec (.resetWord v) s = .next s) ∧
   (∀ s : State,
     exec .resetPin s = .next { State.reset with pending := s.pending, resetLow := true }) ∧
   ∀ s : State, exec .resetPinRelease s = .next { s with resetLow := false }) ∧
  (∀ s : State, s.resetLow = true →
     (∀ c : Instr, c ≠ .resetPin → c ≠ .resetPinRelease → exec c s = .next s) ∧
     (∀ a : BitVec 7, windowRead s a = 0) ∧ intPin s = true ∧
     ∀ l : LaneNo, transmitLines s l = [⟨true, 0x0⟩])

/-- What every record, setting and count reads as after device reset. -/
def Obligations.ResetValues : Prop :=
  (∀ ref, entryAt .reset ref = ⟨0, none⟩) ∧
  State.reset.occupancy = ⟨0, 0, 8256⟩ ∧ State.reset.hashSelect = 0 ∧
  State.reset.spillMark = 48 ∧ State.reset.tableStats = ⟨0, 0, 0, 0, 0, 0, 0, 0, 0⟩ ∧
  State.reset.pointer = 0 ∧ State.reset.engine = .idle ∧
  (∀ d, domainAt .reset d = ⟨false, 0, false, .flood, .flood, none, false, 0⟩) ∧
  (∀ p, profileAt .reset p = ⟨false, 0, 1, .drop, 1⟩) ∧
  (∀ n, counterSetAt .reset n = ⟨.free, ⟨0, 0, 0, 0, 0⟩⟩) ∧
  State.reset.autoReclaim = false ∧ State.reset.orphanMark = 0 ∧ State.reset.orphaned = 0 ∧
  State.reset.agePeriod = 0 ∧ State.reset.ageTimer = none ∧
  State.reset.sweepRunning = false ∧ State.reset.sweepCursor = 0 ∧
  (∀ l, (laneAt .reset l).state = .down ∧ (laneAt .reset l).learning = false ∧
    (laneAt .reset l).pauseOn = false ∧ (laneAt .reset l).settleTimeout = 0 ∧
    (∀ t, tagOf (laneAt .reset l) t = .free false) ∧ (laneAt .reset l).queue = [] ∧
    (laneAt .reset l).inHand = none ∧ (laneAt .reset l).pause = .idle ∧
    (laneAt .reset l).transmitting = none ∧ (laneAt .reset l).waiting = [] ∧
    (laneAt .reset l).stats = ⟨0, 0, 0, 0, 0, 0, 0, 0, 0, 0, 0, 0, 0, 0, 0, 0⟩) ∧
  (∀ n, slotAt .reset n = .empty) ∧ State.reset.order = [] ∧ State.reset.walk = none ∧
  (∀ w, wordAt State.reset.submission w = 0) ∧ State.reset.submitStatus = .none ∧
  State.reset.irqPending = 0 ∧ State.reset.irqEnable = 0 ∧ State.reset.highCapture = 0 ∧
  State.reset.divider = 50 ∧ State.reset.subMs = 0 ∧ State.reset.ms = 0

/-! ### Lane messages -/

/-- A LOOKUP judged in READY is taken on a FREE tag and is the TAG_BUSY fault on an open one (R129). -/
def Obligations.LookupJudged : Prop :=
  ∀ (l : LaneNo) (op : Opening) (tag domain : Byte) (dst src : Address) (s : State),
    Heard l op s → (laneAt s l).state = .ready →
    (∀ memo, tagOf (laneAt s l) (tag.setWidth 4).toFin = .free memo →
      exec (.lookup l op tag domain dst src) s = .next
        { s with
          lanes := put .reset s.lanes l.val
            { laneAt s l with
              receiveOpen := true
              tags := put .reset (laneAt s l).tags (tag.setWidth 4).toNat .queued
              queue := (laneAt s l).queue ++ [.lookup (tag.setWidth 4).toFin domain dst src] } }) ∧
    ((∀ memo, tagOf (laneAt s l) (tag.setWidth 4).toFin ≠ .free memo) →
      exec (.lookup l op tag domain dst src) s = .next (faulted l .tagBusy s))

/-- The lane faults: a malformed message in WAITING or READY, and a LOOKUP in READY on an open tag. -/
def Obligations.LaneFaultTaken : Prop :=
  (∀ (l : LaneNo) (op : Opening) (body : List Symbol) (r : FaultReason) (s : State),
    Heard l op s → ((laneAt s l).state = .waiting ∨ (laneAt s l).state = .ready) →
    readBody body = .malformed r →
    exec (.malformedMessage l op body) s = .next (faulted l r s)) ∧
  ∀ (l : LaneNo) (op : Opening) (tag domain : Byte) (dst src : Address) (s : State),
    Heard l op s → (laneAt s l).state = .ready →
    (∀ memo, tagOf (laneAt s l) (tag.setWidth 4).toFin ≠ .free memo) →
    exec (.lookup l op tag domain dst src) s = .next (faulted l .tagBusy s)

/-- Which fault a malformed message draws: the tests of R121 in their order. That an empty body is no
message is the model's reading (log 6). -/
def Obligations.MalformedReasons : Prop :=
  ∀ body : List Symbol,
    let nibbles := storedNibbles body
    let bytes := bytesOfNibbles nibbles
    (nibbles = [] → readBody body = .nothing) ∧
    (nibbles ≠ [] → (nibbles.length % 2 = 1 ∨ bytes.length < 2 ∨ 16 < bytes.length) →
      readBody body = .malformed .length) ∧
    (nibbles.length % 2 = 0 → 2 ≤ bytes.length → bytes.length ≤ 16 →
      (.codingError ∈ body ∨ bytes.getLast? ≠ some (crc8 bytes.dropLast) →
        readBody body = .malformed .check) ∧
      (.codingError ∉ body → bytes.getLast? = some (crc8 bytes.dropLast) →
        (bytes.head? ≠ some 0x11 → bytes.head? ≠ some 0x12 → bytes.head? ≠ some 0x1E →
          readBody body = .malformed .type) ∧
        ((bytes.head? = some 0x11 ∧ bytes.length ≠ 16) ∨
          (bytes.head? = some 0x12 ∧ bytes.length ≠ 6) ∨
          (bytes.head? = some 0x1E ∧ bytes.length ≠ 2) →
          readBody body = .malformed .length)))

/-- What a SETTLE judged in READY does by its tag's state (R130). -/
def Obligations.SettleJudged : Prop :=
  ∀ (l : LaneNo) (op : Opening) (tag outcome : Byte) (byteCount : Word16) (s : State),
    Heard l op s → (laneAt s l).state = .ready →
    let t : TagNo := (tag.setWidth 4).toFin
    let x := laneAt s l
    (∀ record timer, tagOf x t = .settling record timer →
      exec (.settle l op tag outcome byteCount) s = .next
        { s with
          lanes := put .reset s.lanes l.val
            { x with
              receiveOpen := true
              tags := put .reset x.tags t.val (.closing record)
              queue := x.queue ++ [.settle t (outcome == 0x01) byteCount] } }) ∧
    (tagOf x t = .free true →
      exec (.settle l op tag outcome byteCount) s = .next
        { s with
          lanes := put .reset s.lanes l.val
            { x with
              receiveOpen := true
              waiting := x.waiting ++ [.nack t .late]
              stats := { x.stats with lateSettles := upOne x.stats.lateSettles } } }) ∧
    (tagOf x t = .free false ∨ tagOf x t = .queued ∨ (∃ record, tagOf x t = .closing record) →
      exec (.settle l op tag outcome byteCount) s = .next
        { s with
          lanes := put .reset s.lanes l.val
            { x with
              receiveOpen := true
              waiting := x.waiting ++ [.nack t .unknown]
              stats := { x.stats with unknownSettles := upOne x.stats.unknownSettles } } })

/-- A RESTART in WAITING or READY restarts the lane, in HELD it is answered FAULT HELD, and in DOWN it is
ignored (R124, with the close-out of R122). -/
def Obligations.RestartJudged : Prop :=
  ∀ (l : LaneNo) (op : Opening) (s : State),
    (Heard l op s → (laneAt s l).state = .waiting ∨ (laneAt s l).state = .ready →
      exec (.restart l op) s = .next
        { s with
          lanes := put .reset s.lanes l.val
            { closedOut (laneAt s l) with
              receiveOpen := true
              state := .ready
              waiting := [.restartAck] } }) ∧
    (Heard l op s → (laneAt s l).state = .held →
      exec (.restart l op) s =
        .next { s with lanes := put .reset s.lanes l.val (replied .held (laneAt s l)) }) ∧
    (awake s → (laneAt s l).state = .down → exec (.restart l op) s = .next s)

/-- Messages that are not acted on: on a DOWN lane, in HELD, in WAITING, and without an opening mark. Which
messages have an opening mark of their own is an operand (log 6). -/
def Obligations.RepliesInOtherStates : Prop :=
  ∀ (c : Instr) (l : LaneNo) (op : Opening) (m : Received) (s : State),
    messageOf c = some (l, op, m) → awake s →
    ((laneAt s l).state = .down → exec c s = .next s) ∧
    ((laneAt s l).state ≠ .down → op = .shared → (laneAt s l).receiveOpen = false →
      exec c s = .next
        { s with lanes := put .reset s.lanes l.val { laneAt s l with receiveOpen := true } }) ∧
    ((laneAt s l).state = .held → Heard l op s → m ≠ .nothing →
      exec c s = .next { s with lanes := put .reset s.lanes l.val (replied .held (laneAt s l)) }) ∧
    ((laneAt s l).state = .waiting → Heard l op s →
      ((∃ tag d dst src, m = .message (.lookup tag d dst src)) ∨
        ∃ tag outcome n, m = .message (.settle tag outcome n)) →
      exec c s = .next
        { s with lanes := put .reset s.lanes l.val (replied .notReady (laneAt s l)) })

/-- The transmit side goes on to the next decided message; with none waiting, transmission ends (log 6). Its
lines carry the message in transmission between two frame marks, and idle when there is none (R182, R187). -/
def Obligations.TransmitInOrder : Prop :=
  ∀ (l : LaneNo) (s : State), awake s →
    (∀ m rest, (laneAt s l).waiting = m :: rest →
      exec (.transmitMessage l) s = .next
        { s with
          lanes := put .reset s.lanes l.val
            { laneAt s l with transmitting := some m, waiting := rest } }) ∧
    ((laneAt s l).waiting = [] →
      exec (.transmitMessage l) s = .next
        { s with lanes := put .reset s.lanes l.val { laneAt s l with transmitting := none } }) ∧
    (∀ m, (laneAt s l).transmitting = some m →
      transmitLines s l =
        ⟨true, 0x1⟩ :: (nibblesOf (laneMessageBytes m)).map (fun v => ⟨false, v⟩) ++ [⟨true, 0x1⟩]) ∧
    ((laneAt s l).transmitting = none → transmitLines s l = [⟨true, 0x0⟩])

/-- Every message of a port controller, carried as its bytes with idles anywhere among them, is read back
whole: every field, at every value. -/
def Obligations.PortMessagesReadBack : Prop :=
  ∀ (m : PortMessage) (body : List Symbol),
    storedNibbles body = nibblesOf (portMessageBytes m) → .codingError ∉ body →
    readBody body = .message m

/-- No two messages the part sends have the same bytes. -/
def Obligations.SentMessagesDistinct : Prop :=
  ∀ m₁ m₂ : LaneMessage, laneMessageBytes m₁ = laneMessageBytes m₂ → m₁ = m₂

/-- The manual's check values of the hash and of the check byte, over the characters "123456789". -/
def Obligations.CheckValues : Prop :=
  crc32 [0x31, 0x32, 0x33, 0x34, 0x35, 0x36, 0x37, 0x38, 0x39] = 0xCBF43926 ∧
  crc8 [0x31, 0x32, 0x33, 0x34, 0x35, 0x36, 0x37, 0x38, 0x39] = 0xF4

/-! ### Table operations: the arbiter, resolves -/

/-- A requester that stays requesting is granted after at most nine other grants (R22). -/
def Obligations.ArbiterIsFair : Prop :=
  ∀ (j : Fin 10) (run : List State),
    (∀ u ∈ run, requesting u j = true ∧ arbiterChoice u ≠ some j) →
    run.IsChain (fun u v => ∃ k, arbiterChoice u = some k ∧ v.pointer = k + 1) →
    run.length ≤ 9

/-- A grant (R22, R133): a lane's head item is taken in hand; the pointer moves on and the engine is taken, for a
lane, for the Command Unit's RUNNING command and for the sweep. The parts of an operation are the model's form
(log 3). -/
def Obligations.GrantTaken : Prop :=
  (∀ (l : LaneNo) (item : Item) (rest : List Item) (s : State),
    awake s → nextGrant s = some (l.castLE (by decide)) → (laneAt s l).queue = item :: rest →
    let taken : Engine → State := fun e =>
      { s with
        pointer := l.castLE (by decide) + 1
        engine := e
        lanes := put .reset s.lanes l.val
          { laneAt s l with queue := rest, inHand := some ⟨item, false⟩ } }
    (∀ t d dst src, item = .lookup t d dst src →
      exec (.resolve .grant) s = .next (taken (.resolving ⟨l, t, d, dst, src, domainAt s d⟩))) ∧
    (∀ t good n record, item = .settle t good n → tagOf (laneAt s l) t = .closing record →
      exec (.settleOperation .grant) s = .next (taken (.settling ⟨l, t, record, good, n⟩)))) ∧
  (∀ (n : SlotNo) (b : Block) (s : State), nextGrant s = some 8 →
    ∀ p ∈ [((0x01 : Byte), Instr.insert), (0x02, .update), (0x03, .remove), (0x04, .removeKey),
        (0x05, .find), (0x06, .read), (0x07, .attach), (0x08, .detach), (0x09, .setHash),
        (0x0A, .setSpillMark), (0x10, .flush), (0x11, .count), (0x12, .search)],
      CommandRunning p.1 n b s →
      exec (p.2 .grant) s = .next { s with pointer := 9, engine := .command }) ∧
  ∀ s : State, awake s → nextGrant s = some 9 →
    exec (.sweepStep .grant) s = .next { s with pointer := 0, engine := .sweepStep }

/-- An operation performed whole is its parts in order, for every command that has parts. The parts of an
operation are the model's form (log 3). -/
def Obligations.WholeIsItsParts : Prop :=
  (∀ f ∈ [Instr.sweepStep, .insert, .update, .remove, .removeKey, .find, .read, .attach, .detach,
      .setHash, .setSpillMark, .readTableStats, .flush, .count, .search],
    ∀ s : State, awake s →
      exec (f .whole) s = .next s ∧ exec (f .grant) s = .next s ∨
      ∃ t, exec (f .grant) s = .next t ∧ exec (f .finish) t = exec (f .whole) s) ∧
  ∀ f ∈ [Instr.resolve, .settleOperation], ∀ s : State, awake s →
    exec (f .whole) s = .next s ∧ exec (f .grant) s = .next s ∨
    ∃ t u, exec (f .grant) s = .next t ∧ exec (f .perform) t = .next u ∧
      exec (f .finish) u = exec (f .whole) s ∧ exec (f .finish) t = exec (f .whole) s

/-- The drops of the gate checks, which have no other effect (R40 to R42), and of the source stage:
SOURCE_DENIED, PINNED_ELSEWHERE and MOVE_FROZEN, with hit set on a learned source (R45, R46, R49). The parts
of an operation are the model's form (log 3). -/
def Obligations.LookupsDropped : Prop :=
  (∀ (i : ResolveInput) (s : State), Resolving i s →
     let dropAt : Reason → State := fun r =>
       { s with engine := .resolved i ⟨⟨.drop, 0, r⟩, none, false, none⟩ s.occupancy }
     (i.copy.enabled = false → exec (.resolve .perform) s = .next (dropAt .domainOff)) ∧
     (i.copy.enabled = true → i.copy.members.getLsbD i.lane.val = false →
       exec (.resolve .perform) s = .next (dropAt .notMember)) ∧
     (i.copy.enabled = true → i.copy.members.getLsbD i.lane.val = true →
       addressClass i.source ≠ .unicast →
       exec (.resolve .perform) s = .next (dropAt .badSource))) ∧
  (∀ (i : ResolveInput) (ref : Nat) (o : Occupant) (s : State), ResolvingKnown i ref o s →
     (o.sourcePolicy = .deny →
       exec (.resolve .perform) s =
         .next (droppedWith i ref { o with life := heard o.life } .sourceDenied s)) ∧
     (o.sourcePolicy = .allow → o.place ≠ .unicast i.lane → o.life = .pinned →
       exec (.resolve .perform) s = .next (droppedWith i ref o .pinnedElsewhere s)) ∧
     (∀ a, o.sourcePolicy = .allow → o.place ≠ .unicast i.lane →
       o.life = .live a ∨ o.life = .stale a → a.frozen = true →
       exec (.resolve .perform) s =
         .next (droppedWith i ref { o with life := .live { a with hit := true } } .moveFrozen s)))

/-- Once past the gate a known source has been heard, whatever the verdict: hit yes and STALE made LIVE, and
no other entry changes (R44). The parts of an operation are the model's form (log 3). -/
def Obligations.KnownSourceHeard : Prop :=
  ∀ (i : ResolveInput) (ref : Nat) (o : Occupant) (s : State), ResolvingKnown i ref o s →
    ∃ t o', exec (.resolve .perform) s = .next t ∧
      entryAt t ref = ⟨(entryAt s ref).generation, some o'⟩ ∧
      (∀ a g, o.life = .new a g → o'.life = .new { a with hit := true } g) ∧
      (∀ a, o.life = .live a ∨ o.life = .stale a → ∃ a', o'.life = .live a' ∧ a'.hit = true) ∧
      (o.life = .pinned → o'.life = .pinned ∧ o'.place = o.place) ∧
      o'.key = o.key ∧ o'.sourcePolicy = o.sourcePolicy ∧
      o'.destinationPolicy = o.destinationPolicy ∧ o'.counterSet = o.counterSet ∧
      ∀ k, k ≠ ref → entryAt t k = entryAt s k

/-- A known learned source on another lane: a NEW entry takes the lane as its home without a move; a LIVE or
STALE one makes a counted move and freezes at the move limit (R36, R47, R48). The parts of an operation are
the model's form (log 3). -/
def Obligations.SourceRehomed : Prop :=
  ∀ (i : ResolveInput) (ref : Nat) (o : Occupant) (s : State), ResolvingKnown i ref o s →
    o.sourcePolicy = .allow → o.place ≠ .unicast i.lane →
    (∀ a g, o.life = .new a g → ∃ t o', exec (.resolve .perform) s = .next t ∧
      (entryAt t ref).occupant = some o' ∧ o'.place = .unicast i.lane ∧
      o'.life = .new { a with hit := true } g ∧ t.tableStats = s.tableStats ∧
      (laneAt t i.lane).stats.moves = (laneAt s i.lane).stats.moves) ∧
    (∀ a, o.life = .live a ∨ o.life = .stale a → a.frozen = false →
      ∃ t o', exec (.resolve .perform) s = .next t ∧
        (entryAt t ref).occupant = some o' ∧ o'.place = .unicast i.lane ∧
        (laneAt t i.lane).stats.moves = upOne (laneAt s i.lane).stats.moves ∧
        (i.copy.moveLimit = 0 ∨ min (a.moves + 1) 15 < i.copy.moveLimit →
          o'.life = .live ⟨true, min (a.moves + 1) 15, false⟩ ∧ t.tableStats = s.tableStats ∧
          t.irqPending = s.irqPending) ∧
        (i.copy.moveLimit ≠ 0 → i.copy.moveLimit ≤ min (a.moves + 1) 15 →
          o'.life = .live ⟨true, min (a.moves + 1) 15, true⟩ ∧
          t.tableStats = { s.tableStats with frozen := upOne s.tableStats.frozen } ∧
          t.irqPending = s.irqPending ||| 0x1000#16))

/-- The meter of a source at its home lane, or re-homed by this resolve (R50): brought up under an enabled
profile and then tested; left alone under a disabled one. The parts of an operation are the model's form
(log 3). -/
def Obligations.MeterTested : Prop :=
  ∀ (i : ResolveInput) (ref : Nat) (o : Occupant) (m : Meter) (s : State),
    ResolvingKnown i ref o s → o.sourcePolicy = .allow → o.meter = some m →
    (o.place = .unicast i.lane ∨ (∃ a g, o.life = .new a g) ∨
      ∃ a, (o.life = .live a ∨ o.life = .stale a) ∧ a.frozen = false) →
    let p := profileAt s m.profile
    let credit : Int :=
      min (p.ceiling : Int) (m.credit + ((s.ms - m.stamp).toNat * p.refill.toNat : Nat))
    let moved : Life × Bool :=
      if o.place = .unicast i.lane then (heard o.life, false) else
        match o.life with
        | .live a | .stale a =>
          let moves := min (a.moves + 1) 15
          (.live ⟨true, moves, decide (i.copy.moveLimit ≠ 0 ∧ i.copy.moveLimit ≤ moves)⟩, true)
        | life => (heard life, false)
    let home : Occupant := { o with place := .unicast i.lane, life := moved.1 }
    let x : Lane := if moved.2 then
        { laneAt s i.lane with
          stats := { (laneAt s i.lane).stats with moves := upOne (laneAt s i.lane).stats.moves } }
      else laneAt s i.lane
    ∃ t r, exec (.resolve .perform) s = .next t ∧ t.engine = .resolved i r s.occupancy ∧
      (p.enabled = false →
        (entryAt t ref).occupant = some home ∧
        r.verdict.reason ≠ .meter ∧ laneAt t i.lane = x ∧ t.counterSets = s.counterSets) ∧
      (p.enabled = true →
        (entryAt t ref).occupant = some { home with meter := some ⟨m.profile, credit, s.ms⟩ }) ∧
      (p.enabled = true → 0 < credit →
        r.verdict.reason ≠ .meter ∧ laneAt t i.lane = x ∧ t.counterSets = s.counterSets) ∧
      (p.enabled = true → credit ≤ 0 → p.action = .drop →
        r = ⟨⟨.drop, 0, .meter⟩, none, false, none⟩ ∧ laneAt t i.lane = x ∧
        (o.counterSet = none → t.counterSets = s.counterSets) ∧
        ∀ n, o.counterSet = some n → (counterSetAt s n).state = .attached (pairAt s ref) →
          counterSetAt t n = ⟨.attached (pairAt s ref),
            { (counterSetAt s n).counts with
              meterDrops := upOne (counterSetAt s n).counts.meterDrops }⟩) ∧
      (p.enabled = true → credit ≤ 0 → p.action = .pause →
        r.verdict.reason ≠ .meter ∧ t.counterSets = s.counterSets ∧
        laneAt t i.lane = pauseDemand p.quantum x)

/-- What a pause demand does at the pause record of its lane (R97, R98). -/
def Obligations.PauseDemandTable : Prop :=
  ∀ (q : Word16) (x : Lane),
    (x.state ≠ .ready ∨ x.pauseOn = false →
      pauseDemand q x =
        { x with stats := { x.stats with pauseSuppressed := upOne x.stats.pauseSuppressed } }) ∧
    (x.state = .ready → x.pauseOn = true →
      (∀ remaining (quantum : Word16), x.pause = .pausing remaining quantum →
        quantum.toNat ≤ 2 * remaining →
        pauseDemand q x =
          { x with stats := { x.stats with pauseAbsorbed := upOne x.stats.pauseAbsorbed } }) ∧
      (x.pause = .idle ∨ (∃ remaining quantum, x.pause = .pausing remaining quantum ∧
          2 * remaining < quantum.toNat) →
        pauseDemand q x =
          { x with
            pause := .pausing q.toNat q
            waiting := x.waiting ++ [.pause q]
            stats := { x.stats with pauseSent := upOne x.stats.pauseSent } }))

/-- The destination stage (R51 to R57) and what is handed back (R62, R63): for an unknown source that is not to
be learned nothing changes but the result in hand; for a known source at home that its meter admits, the
source's entry is heard and brought up, and its pair is handed back with created no unless the verdict is
DROP. The parts of an operation are the model's form (log 3). -/
def Obligations.DestinationTable : Prop :=
  (∀ (i : ResolveInput) (s : State), ResolvingUnknown i s →
    (i.copy.learning = false ∨ (laneAt s i.lane).learning = false) →
    DestinationRules i s fun v d =>
      exec (.resolve .perform) s =
        .next { s with engine := .resolved i ⟨v, none, false, d⟩ s.occupancy }) ∧
  ∀ (i : ResolveInput) (ref : Nat) (o : Occupant) (s : State), ResolvingKnown i ref o s →
    o.sourcePolicy = .allow → o.place = .unicast i.lane →
    (∀ m, meterNow s o = some m → (profileAt s m.profile).enabled = true → 0 < m.credit) →
    DestinationRules i s fun v d =>
      ∃ t, exec (.resolve .perform) s = .next t ∧
        entryAt t ref = ⟨(entryAt s ref).generation,
          some { o with life := heard o.life, meter := meterNow s o }⟩ ∧
        (∀ k, k ≠ ref → entryAt t k = entryAt s k) ∧
        { t with entries := s.entries } =
          { s with
            engine := .resolved i
              ⟨v, if v.action = .drop then none else some (pairAt s ref), false, d⟩ s.occupancy }

/-- Learning makes a place a NEW entry for the source and hands its pair back with created yes (R59, R60),
or fails with TABLE_FULL and the learn failures statistics (R61). The parts of an operation are the model's
form (log 3). -/
def Obligations.LearningOutcomes : Prop :=
  (∀ (i : ResolveInput) (v : Verdict) (d : Option Nat) (ref : Nat) (s : State),
     ResolvingUnknown i s → destinationStage i s = (v, d) → v.action ≠ .drop →
     i.copy.learning = true → (laneAt s i.lane).learning = true →
     freePlace s ⟨i.domain, i.source⟩ = some ref →
     let p : Pair := ⟨ref, (entryAt s ref).generation + 1⟩
     let set : Option Nat := if i.copy.autoCount then lowestFreeSet s else none
     let e : Entry :=
       ⟨(entryAt s ref).generation + 1,
         some
           { key := ⟨i.domain, i.source⟩
             place := .unicast i.lane
             sourcePolicy := .allow
             destinationPolicy := .allow
             life := .new ⟨true, 0, false⟩ ⟨i.lane, i.tag⟩
             meter := i.copy.defaultProfile.map fun q => ⟨q, (profileAt s q).ceiling, s.ms⟩
             counterSet := set }⟩
     ∃ t, exec (.resolve .perform) s = .next t ∧ entryAt t ref = e ∧
       (∀ k, k ≠ ref → entryAt t k = entryAt s k) ∧
       (∀ n, counterSetAt t n = if set = some n then ⟨.attached p, .zero⟩ else counterSetAt s n) ∧
       (∀ l, l ≠ i.lane → laneAt t l = laneAt s l) ∧
       laneAt t i.lane = { laneAt s i.lane with
         stats := { (laneAt s i.lane).stats with learns := upOne (laneAt s i.lane).stats.learns } } ∧
       { t with entries := s.entries, counterSets := s.counterSets, lanes := s.lanes } =
         { s with
           occupancy := occupied ref s.occupancy
           tableStats := { s.tableStats with learned := upOne s.tableStats.learned }
           engine := .resolved i ⟨v, some p, true, d.map (pairAt s)⟩ s.occupancy }) ∧
  (∀ (i : ResolveInput) (v : Verdict) (d : Option Nat) (s : State),
     ResolvingUnknown i s → destinationStage i s = (v, d) → v.action ≠ .drop →
     i.copy.learning = true → (laneAt s i.lane).learning = true →
     freePlace s ⟨i.domain, i.source⟩ = none →
     exec (.resolve .perform) s = .next
       { s with
         tableStats := { s.tableStats with learnFailures := upOne s.tableStats.learnFailures }
         lanes := put .reset s.lanes i.lane.val
           { laneAt s i.lane with
             stats := { (laneAt s i.lane).stats with
               learnFailures := upOne (laneAt s i.lane).stats.learnFailures } }
         irqPending := s.irqPending ||| 0x0200#16
         engine := .resolved i ⟨v, none, false, d.map (pairAt s)⟩ s.occupancy })

/-- The verdict of every resolve names lanes of the domain's member set other than the ingress lane; a DROP
names none, and a FORWARD or FLOOD at least one (R27, R51, R57). The parts of an operation are the model's
form (log 3). -/
def Obligations.VerdictPortsLegal : Prop :=
  ∀ (i : ResolveInput) (s : State), Resolving i s →
    ∃ t r, exec (.resolve .perform) s = .next t ∧ t.engine = .resolved i r s.occupancy ∧
      r.verdict.ports &&& ~~~(floodSetOf i) = 0 ∧
      (r.verdict.action = .drop → r.verdict.ports = 0 ∧ r.source = none ∧ r.destination = none) ∧
      (r.verdict.action ≠ .drop → r.verdict.ports ≠ 0)

/-- What a resolve leaves alone: other lanes; the ingress lane but for its pause record, its decided
messages and its statistics; and every block but the table, the pool and the pending set (R39). The parts of
an operation are the model's form (log 3). -/
def Obligations.ResolveFrame : Prop :=
  ∀ (i : ResolveInput) (s : State), Resolving i s → ∃ t, exec (.resolve .perform) s = .next t ∧
    { t with
      entries := s.entries, occupancy := s.occupancy, tableStats := s.tableStats,
      counterSets := s.counterSets, lanes := s.lanes, irqPending := s.irqPending,
      engine := s.engine } = s ∧
    (∀ l, l ≠ i.lane → laneAt t l = laneAt s l) ∧
    { laneAt t i.lane with
      pause := (laneAt s i.lane).pause, waiting := (laneAt s i.lane).waiting,
      stats := (laneAt s i.lane).stats } = laneAt s i.lane ∧
    ∀ k o, (entryAt s k).occupant = some o → o.key ≠ ⟨i.domain, i.source⟩ →
      entryAt t k = entryAt s k

/-- The result of a resolve and of a settle operation is handed back: the lane acts on it, or discards it
when its item was cancelled (R62, R63, R134, R137); SPILL_HIGH is raised where R15 applies. The parts of an
operation are the model's form (log 3). -/
def Obligations.ResultsHandedBack : Prop :=
  (∀ (i : ResolveInput) (r : ResolveResult) (before : Occupancy) (s : State), awake s →
     s.engine = .resolved i r before →
     let x := laneAt s i.lane
     let pending := if s.spillMark ≠ 0 ∧ before.spill + 1 = s.spillMark ∧
         s.occupancy.spill = s.spillMark then s.irqPending ||| 0x0400#16 else s.irqPending
     let handedTo : Lane → State := fun y =>
       { s with
         engine := .idle, irqPending := pending
         lanes := put .reset s.lanes i.lane.val { y with inHand := none } }
     let timer := if x.settleTimeout = 0 then Timer.stopped
       else .running (s.ms + x.settleTimeout.setWidth 32)
     (∀ item, x.inHand = some ⟨item, true⟩ → exec (.resolve .finish) s = .next (handedTo x)) ∧
     (∀ item, x.inHand = some ⟨item, false⟩ →
       (r.verdict.action = .drop →
         exec (.resolve .finish) s = .next (handedTo
           { x with
             tags := put .reset x.tags i.tag.val (.free false)
             waiting := x.waiting ++ [.verdict i.tag r.verdict]
             stats := { x.stats with
               lookups := upOne x.stats.lookups, drops := upOne x.stats.drops } })) ∧
       (r.verdict.action = .forward →
         exec (.resolve .finish) s = .next (handedTo
           { x with
             tags := put .reset x.tags i.tag.val
               (.settling ⟨r.source, r.created, r.destination, s.ms⟩ timer)
             waiting := x.waiting ++ [.verdict i.tag r.verdict]
             stats := { x.stats with
               lookups := upOne x.stats.lookups, forwards := upOne x.stats.forwards } })) ∧
       (r.verdict.action = .flood →
         exec (.resolve .finish) s = .next (handedTo
           { x with
             tags := put .reset x.tags i.tag.val
               (.settling ⟨r.source, r.created, r.destination, s.ms⟩ timer)
             waiting := x.waiting ++ [.verdict i.tag r.verdict]
             stats := { x.stats with
               lookups := upOne x.stats.lookups, floods := upOne x.stats.floods } })))) ∧
  (∀ (l : LaneNo) (tag : TagNo) (before : Occupancy) (s : State), awake s →
     s.engine = .settled l tag before →
     (∀ item, (laneAt s l).inHand = some ⟨item, false⟩ →
       exec (.settleOperation .finish) s = .next
         { s with
           engine := .idle
           lanes := put .reset s.lanes l.val
             { laneAt s l with
               tags := put .reset (laneAt s l).tags tag.val (.free false)
               inHand := none } }) ∧
     (∀ item, (laneAt s l).inHand = some ⟨item, true⟩ →
       exec (.settleOperation .finish) s = .next
         { s with
           engine := .idle
           lanes := put .reset s.lanes l.val { laneAt s l with inHand := none } }))

/-! ### Settle operations -/

/-- A settle operation's work on a current source that is not retired by it, whatever its tag records as
destination: confirmation, the debit and its floor, the source charge, and then the destination charge (R67,
R93, R108, R135, R136). The parts of an operation are the model's form (log 3). -/
def Obligations.SourceSettled : Prop :=
  ∀ (i : SettleInput) (p : Pair) (o : Occupant) (s : State), SettlingSource i p o s →
    (i.good = true ∨ (∀ a g, o.life ≠ .new a g) ∨ i.record.created = false ∨
      ∃ a g, o.life = .new a g ∧ g ≠ ⟨i.lane, i.tag⟩) →
    let sourceCharged : Counts → Counts := fun k =>
      if i.good then
        { k with
          srcFrames := upOne k.srcFrames
          srcBytes := min (k.srcBytes + i.byteCount.toNat) (2 ^ 48 - 1) }
      else { k with srcErrors := upOne k.srcErrors }
    ∃ t, exec (.settleOperation .perform) s = .next t ∧
      entryAt t p.ref = ⟨p.generation,
        some { o with
          life := match o.life with
            | .new a g => if i.good then .live a else .new a g
            | l => l
          meter := (meterNow s o).map fun m =>
            if (profileAt s m.profile).enabled then
              { m with credit := max (-16777215) (m.credit - i.byteCount.toNat) }
            else m }⟩ ∧
      (∀ k, k ≠ p.ref → entryAt t k = entryAt s k) ∧
      DestinationCharged i s (chargedTo o.counterSet p sourceCharged s) t ∧
      { t with entries := s.entries, counterSets := s.counterSets, lanes := s.lanes } =
        { s with engine := .settled i.lane i.tag s.occupancy }

/-- BAD from the origin tag of a NEW entry rejects it, whatever its tag records as destination: after the error
charge the entry is retired under its kept generation and the rejected statistic rises; no destination charge
is sent (R13, R68, R106, R136). The parts of an operation are the model's form (log 3). -/
def Obligations.OriginTagRejects : Prop :=
  ∀ (i : SettleInput) (p : Pair) (o : Occupant) (a : Aging) (s : State), SettlingSource i p o s →
    i.good = false → i.record.created = true → o.life = .new a ⟨i.lane, i.tag⟩ →
    let mid := chargedTo o.counterSet p (fun k => { k with srcErrors := upOne k.srcErrors }) s
    ∃ t, exec (.settleOperation .perform) s = .next t ∧ RetiredAll [p.ref] mid t ∧
      (∀ k, k ≠ p.ref → entryAt t k = entryAt s k) ∧
      { t with
        entries := s.entries, counterSets := s.counterSets, occupancy := s.occupancy,
        orphaned := s.orphaned, lanes := s.lanes } =
        { s with
          tableStats := { s.tableStats with rejected := upOne s.tableStats.rejected }
          irqPending := s.irqPending ||| orphansBit [p.ref] s
          engine := .settled i.lane i.tag s.occupancy }

/-- A settle operation without a current source (R136): a GOOD settle charges the set of a current destination
and nothing else changes but the lane's lost charges. In every settle operation those rise by exactly one when
a recorded pair is stale as the operation reaches it, and by none otherwise. The parts of an operation are the
model's form (log 3). -/
def Obligations.DestinationAndLostCharges : Prop :=
  (∀ (i : SettleInput) (s : State), Settling i s →
     (∀ p, i.record.source = some p → current s p = false) →
     ∃ t, exec (.settleOperation .perform) s = .next t ∧ DestinationCharged i s s t ∧
       { t with counterSets := s.counterSets, lanes := s.lanes } =
         { s with engine := .settled i.lane i.tag s.occupancy }) ∧
  (∀ (i : SettleInput) (s : State), Settling i s → ∃ t, exec (.settleOperation .perform) s = .next t ∧
     (∀ l, l ≠ i.lane → laneAt t l = laneAt s l) ∧
     ((∃ p, i.record.source = some p ∧ current s p = false) ∨
         (∃ p, i.record.destination = some p ∧ current t p = false) →
       laneAt t i.lane = { laneAt s i.lane with
         stats := { (laneAt s i.lane).stats with
           lostCharges := upOne (laneAt s i.lane).stats.lostCharges } }) ∧
     ((∀ p, i.record.source = some p → current s p = true) →
         (∀ p, i.record.destination = some p → current t p = true) →
       laneAt t i.lane = laneAt s i.lane))

/-! ### Timers, the sweep and the Timebase -/

/-- A settle timer that has run out frees its tag with late memo yes (R131), and a pause whose remaining
time is zero becomes IDLE with no message (R99). The due but untaken end of a count is the model's form (log
5). -/
def Obligations.LaneTimersRunOut : Prop :=
  (∀ (l : LaneNo) (t : TagNo) (record : TagRecord) (s : State), awake s →
    tagOf (laneAt s l) t = .settling record .ranOut →
    exec (.settleTimeout l t) s = .next
      { s with
        lanes := put .reset s.lanes l.val
          { laneAt s l with
            tags := put .reset (laneAt s l).tags t.val (.free true)
            stats := { (laneAt s l).stats with
              orphanedTags := upOne (laneAt s l).stats.orphanedTags } } }) ∧
  ∀ (l : LaneNo) (q : Word16) (s : State), awake s → (laneAt s l).pause = .pausing 0 q →
    exec (.pauseExpiry l) s = .next
      { s with lanes := put .reset s.lanes l.val { laneAt s l with pause := .idle } }

/-- The two ticks of the Timebase (R180): what each counts, and what each lane does at it (R96, R128). The
due but untaken end of a count is the model's form (log 5). -/
def Obligations.TicksOfTheTimebase : Prop :=
  (∀ s : State, awake s → s.subMs < 1000 → ∃ t, exec .microsecondTick s = .next t ∧
    { t with lanes := s.lanes } = { s with subMs := s.subMs + 1, tickDivider := s.divider } ∧
    ∀ l, laneAt t l = { laneAt s l with
      pause := match (laneAt s l).pause with
        | .idle => .idle
        | .pausing remaining q => .pausing (remaining - 1) q }) ∧
  ∀ s : State, awake s → s.subMs = 1000 → ∃ t, exec .millisecondTick s = .next t ∧
    { t with lanes := s.lanes } =
      { s with subMs := 0, ms := s.ms + 1, ageTimer := s.ageTimer.map (· - 1) } ∧
    ∀ l, { laneAt t l with tags := (laneAt s l).tags } = laneAt s l ∧
      ∀ k, tagOf (laneAt t l) k =
        match tagOf (laneAt s l) k with
        | .settling record (.running deadline) =>
          if s.ms + 1 = deadline then .settling record .ranOut
          else .settling record (.running deadline)
        | other => other

/-- An age tick starts a sweep or is lost, and the timer restarts with the period (R71, R72); SET_AGING and
SWEEP_NOW (R73, R78). The due but untaken end of a count is the model's form (log 5). -/
def Obligations.AgeTickAndAgingCommands : Prop :=
  (∀ s : State, awake s → s.ageTimer = some 0 →
     let timer := if s.agePeriod = 0 then none else some (s.agePeriod * 1000)
     (s.sweepRunning = false →
       exec .ageTick s =
         .next { s with ageTimer := timer, sweepRunning := true, sweepCursor := 0 }) ∧
     (s.sweepRunning = true →
       exec .ageTick s = .next
         { s with
           ageTimer := timer
           tableStats := { s.tableStats with sweepOverruns := upOne s.tableStats.sweepOverruns }
           irqPending := s.irqPending ||| 0x2000#16 })) ∧
  (∀ (n : SlotNo) (b : Block) (s : State),
     (CommandRunning 0x38 n b s →
       (4095 < (wordAt b 2).toNat → exec .setAging s = .next (finished n b .badArg [] s)) ∧
       ((wordAt b 2).toNat ≤ 4095 →
         exec .setAging s = .next (finished n b .ok []
           { s with
             agePeriod := (wordAt b 2).toNat
             ageTimer := if (wordAt b 2).toNat = 0 then none
               else some ((wordAt b 2).toNat * 1000) }))) ∧
     (CommandRunning 0x39 n b s →
       (s.sweepRunning = true → exec .sweepNow s = .next (finished n b .sweepRunning [] s)) ∧
       (s.sweepRunning = false → exec .sweepNow s = .next (finished n b .ok []
         { s with sweepRunning := true, sweepCursor := 0 }))))

/-- A sweep step visits every entry of its bucket or group and no other, by Table 4-2: entries kept, made STALE
or retired with their sets handed to the pool, the counts and the two statistics, and the cursor moved on (R74,
R76, R77). The parts of an operation are the model's form (log 3). -/
def Obligations.SweepStepVisits : Prop :=
  ∀ s : State, awake s → s.engine = .sweepStep →
    let unconfirmed : Nat → Bool := fun r =>
      match (entryAt s r).occupant with
      | some o => (match o.life with
        | .new a _ => !a.hit
        | _ => false)
      | none => false
    let stale : Nat → Bool := fun r =>
      match (entryAt s r).occupant with
      | some o => (match o.life with
        | .stale _ => true
        | _ => false)
      | none => false
    let retired := (stepRefs s.sweepCursor).filter fun r => unconfirmed r || stale r
    ∃ t, exec (.sweepStep .finish) s = .next t ∧ RetiredAll retired s t ∧
      (s.sweepCursor < 2055 → t.sweepCursor = s.sweepCursor + 1 ∧ t.sweepRunning = s.sweepRunning) ∧
      (2055 ≤ s.sweepCursor → t.sweepCursor = 0 ∧ t.sweepRunning = false) ∧
      (∀ k, k ∉ stepRefs s.sweepCursor → entryAt t k = entryAt s k) ∧
      (∀ k, k ∈ stepRefs s.sweepCursor → (entryAt t k).generation = (entryAt s k).generation ∧
        (entryAt t k).occupant =
          (entryAt s k).occupant.bind fun o =>
            match o.life with
            | .new a g => if a.hit then some { o with life := .new { a with hit := false } g } else none
            | .live a =>
              let a' : Aging := ⟨false, if a.frozen then a.moves else 0, a.frozen⟩
              some { o with life := if a.hit then .live a' else .stale a' }
            | .stale _ => none
            | .pinned => some o) ∧
      { t with
        entries := s.entries, counterSets := s.counterSets, occupancy := s.occupancy,
        orphaned := s.orphaned, sweepCursor := s.sweepCursor, sweepRunning := s.sweepRunning } =
        { s with
          engine := .idle
          tableStats := { s.tableStats with
            unconfirmedRetired :=
              upOne^[(stepRefs s.sweepCursor).countP unconfirmed] s.tableStats.unconfirmedRetired
            agedOut := upOne^[(stepRefs s.sweepCursor).countP stale] s.tableStats.agedOut }
          irqPending := s.irqPending ||| orphansBit retired s }

/-! ### The Command Unit -/

/-- The head of the submission order starts when no slot is RUNNING (R142); an unknown code completes at
once with BAD_ARG (R143). -/
def Obligations.CommandStarts : Prop :=
  ∀ (n : SlotNo) (rest : List SlotNo) (b : Block) (s : State), awake s → runningSlot s = none →
    s.order = n :: rest → slotAt s n = .pending b →
    (isDirectCode (codeOf b) = true →
      exec .commandStart s = .next
        { s with order := rest, slots := put .empty s.slots n.val (.running b) }) ∧
    (isTableCode (codeOf b) = true → isWalkCode (codeOf b) = false →
      exec .commandStart s = .next
        { s with order := rest, slots := put .empty s.slots n.val (.running b), walk := none }) ∧
    (isWalkCode (codeOf b) = true → ∃ w,
      exec .commandStart s = .next
        { s with order := rest, slots := put .empty s.slots n.val (.running b), walk := some w } ∧
      w.stepsDone = 0 ∧ w.tally = 0 ∧ w.aborted = false ∧
      w.domain = wordAt b 8 ∧ w.lane = wordAt b 9 ∧ w.cls = wordAt b 10 ∧ w.kind = wordAt b 11 ∧
      (codeOf b ≠ 0x12 → w.cursor = 0 ∧ w.startRef = 0) ∧
      (codeOf b = 0x12 → w.startRef = wordAt b 2 ∧
        ((wordAt b 2).toNat < 8192 → w.cursor = (wordAt b 2).toNat / 4) ∧
        (8192 ≤ (wordAt b 2).toNat → (wordAt b 2).toNat < 8256 →
          w.cursor = 2048 + ((wordAt b 2).toNat - 8192) / 8) ∧
        (8256 ≤ (wordAt b 2).toNat → w.cursor = 2056))) ∧
    (isTableCode (codeOf b) = false → isDirectCode (codeOf b) = false →
      exec .commandStart s = .next (finished n b .badArg [] { s with order := rest }))

/-- What search, allocation and the pool give: the entry of the key in its bucket or the spill area (R8), the
lowest FREE way and only then the lowest FREE spill slot (R9), the lowest FREE set (R103). And INSERT places a
new entry where no key stands in its way and a place is FREE (R151 to R153). The parts
of an operation are the model's form (log 3). -/
def Obligations.InsertPlaces : Prop :=
  ((∀ (s : State) (k : Key) (ref : Nat), searchKey s k = some ref →
      (ref / 4 = bucketOf s.hashSelect k ∨ (8192 ≤ ref ∧ ref < 8256)) ∧
      ∃ o, (entryAt s ref).occupant = some o ∧ o.key = k) ∧
   (∀ (s : State) (k : Key), searchKey s k = none →
      ∀ ref o, (ref / 4 = bucketOf s.hashSelect k ∨ (8192 ≤ ref ∧ ref < 8256)) →
        (entryAt s ref).occupant = some o → o.key ≠ k) ∧
   (∀ (s : State) (k : Key) (ref : Nat), freePlace s k = some ref ↔
      (entryAt s ref).occupant = none ∧
        ((ref / 4 = bucketOf s.hashSelect k ∧
            ∀ r, r / 4 = bucketOf s.hashSelect k → r < ref → (entryAt s r).occupant ≠ none) ∨
          ((8192 ≤ ref ∧ ref < 8256) ∧
            (∀ r, r / 4 = bucketOf s.hashSelect k → (entryAt s r).occupant ≠ none) ∧
            ∀ r, 8192 ≤ r → r < ref → (entryAt s r).occupant ≠ none))) ∧
   ∀ (s : State) (n : Nat), lowestFreeSet s = some n ↔
      n < 1024 ∧ (counterSetAt s n).state = .free ∧ ∀ k, k < n → (counterSetAt s k).state ≠ .free) ∧
  ∀ (n : SlotNo) (b : Block) (o : InsertOperands) (pl : Place) (ref : Nat) (s : State),
    CommandGranted 0x01 n b s → insertOperands b = some o → insertPlace o = some pl →
    searchKey s o.key = none → freePlace s o.key = some ref →
    let p : Pair := ⟨ref, (entryAt s ref).generation + 1⟩
    let set : Option Nat := o.counter.bind fun q =>
      match q with
      | .any => lowestFreeSet s
      | .named k => if (counterSetAt s k).state = .free then some k else none
    let st : Status := if o.counter ≠ none ∧ set = none then .okNoCounter else .ok
    let e : Entry := ⟨p.generation, some
      { key := o.key, place := pl, sourcePolicy := o.sourcePolicy
        destinationPolicy := o.destinationPolicy
        life := if o.isStatic then .pinned else .live ⟨true, 0, false⟩
        meter := o.profile.map fun q => ⟨q, (profileAt s q).ceiling, s.ms⟩
        counterSet := set }⟩
    let mark : Word16 := match set with
      | some k => 0x8000 ||| BitVec.ofNat 16 k
      | none => 0
    ∃ t, exec (.insert .finish) s = .next t ∧ entryAt t ref = e ∧
      (∀ k, k ≠ ref → entryAt t k = entryAt s k) ∧
      (∀ k, counterSetAt t k = if set = some k then ⟨.attached p, .zero⟩ else counterSetAt s k) ∧
      { t with entries := s.entries, counterSets := s.counterSets } =
        ended n b st [BitVec.ofNat 16 ref, p.generation.setWidth 16, mark]
          { s with
            occupancy := occupied ref s.occupancy
            irqPending := if s.spillMark ≠ 0 ∧ s.occupancy.spill + 1 = s.spillMark ∧
              (occupied ref s.occupancy).spill = s.spillMark then s.irqPending ||| 0x0400#16
              else s.irqPending }

/-- The refusals of INSERT, REMOVE, REMOVE_KEY, FIND and READ, in the order of their tests, change nothing
but the slot (R151, R158 to R160). The parts of an operation are the model's form (log 3). -/
def Obligations.HostEntryCommandsRefused : Prop :=
  (∀ (n : SlotNo) (b : Block) (s : State), CommandGranted 0x01 n b s →
     (insertOperands b = none → exec (.insert .finish) s = .next (ended n b .badArg [] s)) ∧
     (∀ o, insertOperands b = some o →
       (addressClass o.key.address = .broadcast ∨
           (addressClass o.key.address = .unicast ∧ o.isGroup = true) ∨
           (addressClass o.key.address = .group ∧ o.isGroup = false) ∨
           (o.isGroup = true ∧ o.isStatic = false) ∨ (o.isGroup = true ∧ o.members = 0) →
         exec (.insert .finish) s = .next (ended n b .badArg [] s)) ∧
       (∀ pl, insertPlace o = some pl →
         (∀ ref, searchKey s o.key = some ref →
           exec (.insert .finish) s = .next
             (ended n b .alreadyExists
               [BitVec.ofNat 16 ref, (entryAt s ref).generation.setWidth 16] s)) ∧
         (searchKey s o.key = none → freePlace s o.key = none →
           exec (.insert .finish) s = .next (ended n b .noRoom [] s))))) ∧
  (∀ (n : SlotNo) (b : Block) (s : State),
     (CommandGranted 0x03 n b s →
       (8256 ≤ (wordAt b 2).toNat → exec (.remove .finish) s = .next (ended n b .badArg [] s)) ∧
       ((wordAt b 2).toNat < 8256 → current s ⟨(wordAt b 2).toNat, (wordAt b 3).setWidth 8⟩ = false →
         exec (.remove .finish) s = .next (ended n b .staleRef [] s))) ∧
     (CommandGranted 0x04 n b s →
       (searchableKeyOf b = none → exec (.removeKey .finish) s = .next (ended n b .badArg [] s)) ∧
       ∀ key, searchableKeyOf b = some key → searchKey s key = none →
         exec (.removeKey .finish) s = .next (ended n b .notFound [] s)) ∧
     (CommandGranted 0x05 n b s →
       (searchableKeyOf b = none → exec (.find .finish) s = .next (ended n b .badArg [] s)) ∧
       ∀ key, searchableKeyOf b = some key → searchKey s key = none →
         exec (.find .finish) s = .next (ended n b .notFound [] s)) ∧
     (CommandGranted 0x06 n b s → 8256 ≤ (wordAt b 2).toNat →
       exec (.read .finish) s = .next (ended n b .badArg [] s)))

/-- UPDATE's outcomes (R154 to R157): refused operands, a stale pair, refused state tests, and the named
changes of a current entry made as one act. The parts of an operation, and the values of a refused UPDATE,
are the model's (logs 3 and 9). -/
def Obligations.UpdateChangesEntry : Prop :=
  ∀ (n : SlotNo) (b : Block) (s : State), CommandGranted 0x02 n b s →
    let p : Pair := ⟨(wordAt b 2).toNat, (wordAt b 3).setWidth 8⟩
    let values : List Word16 := [wordAt b 2, wordAt b 3 &&& 0xFF]
    (8256 ≤ (wordAt b 2).toNat ∨ updateChanges b = none →
      exec (.update .finish) s = .next (ended n b .badArg values s)) ∧
    ∀ u, (wordAt b 2).toNat < 8256 → updateChanges b = some u →
      (current s p = false → exec (.update .finish) s = .next (ended n b .staleRef values s)) ∧
      ∀ o, entryAt s p.ref = ⟨p.generation, some o⟩ →
        let learned : Bool := if u.pin then false else if u.unpin then true else decide (o.life ≠ .pinned)
        let unicast : Bool := match o.place with
          | .unicast _ => true
          | .group _ => false
        let allowed : Prop :=
          (u.pin = true → o.life ≠ .pinned) ∧
          (u.unpin = true → o.life = .pinned ∧ unicast = true) ∧
          (u.home ≠ none → unicast = true) ∧ (u.members ≠ none → unicast = false) ∧
          (u.unfreeze = true ∨ u.clearMoves = true → learned = true)
        let thaw : Aging → Aging := fun a =>
          ⟨a.hit, if u.clearMoves then 0 else a.moves, if u.unfreeze then false else a.frozen⟩
        let changed : Occupant :=
          { o with
            life := if u.pin then .pinned else if u.unpin then .live ⟨true, 0, false⟩ else
              match o.life with
              | .new a g => .new (thaw a) g
              | .live a => .live (thaw a)
              | .stale a => .stale (thaw a)
              | .pinned => .pinned
            place := match o.place with
              | .unicast home => .unicast (u.home.getD home)
              | .group members => .group (u.members.getD members)
            sourcePolicy := u.sourcePolicy.getD o.sourcePolicy
            destinationPolicy := u.destinationPolicy.getD o.destinationPolicy
            meter := match u.meter with
              | none => o.meter
              | some none => none
              | some (some q) => some ⟨q, (profileAt s q).ceiling, s.ms⟩ }
        (¬allowed → exec (.update .finish) s = .next (ended n b .badArg values s)) ∧
        (allowed → exec (.update .finish) s = .next
          (ended n b .ok values
            { s with entries := put .reset s.entries p.ref ⟨p.generation, some changed⟩ }))

/-- REMOVE and REMOVE_KEY retire one entry (R158) as R13 gives: FREE under its kept generation, its set
handed to the pool, the counts and the host removed statistic. The parts of an operation are the model's
form (log 3). -/
def Obligations.RemoveRetires : Prop :=
  ∀ (n : SlotNo) (b : Block) (ref : Nat) (o : Occupant) (s : State),
    (entryAt s ref).occupant = some o →
    let retired : State → Prop := fun t =>
      RetiredAll [ref] s t ∧ (∀ k, k ≠ ref → entryAt t k = entryAt s k) ∧
      { t with
        entries := s.entries, counterSets := s.counterSets, occupancy := s.occupancy,
        orphaned := s.orphaned } =
        ended n b .ok [BitVec.ofNat 16 ref, (entryAt s ref).generation.setWidth 16]
          { s with
            tableStats := { s.tableStats with hostRemoved := upOne s.tableStats.hostRemoved }
            irqPending := s.irqPending ||| orphansBit [ref] s }
    (CommandGranted 0x03 n b s → wordAt b 2 = BitVec.ofNat 16 ref → ref < 8256 →
      (wordAt b 3).setWidth 8 = (entryAt s ref).generation →
      ∃ t, exec (.remove .finish) s = .next t ∧ retired t) ∧
    (∀ key, CommandGranted 0x04 n b s → searchableKeyOf b = some key →
      searchKey s key = some ref →
      ∃ t, exec (.removeKey .finish) s = .next t ∧ retired t)

/-- FIND and READ report an entry with its meter brought up to date, and change nothing else (R95, R159,
R160). The parts of an operation are the model's form (log 3). -/
def Obligations.FindAndReadReport : Prop :=
  ∀ (n : SlotNo) (b : Block) (ref : Nat) (s : State),
    let report : State → Prop := fun t =>
      let e : Entry := ⟨(entryAt s ref).generation, (entryAt s ref).occupant.map fun o =>
        { o with meter := meterNow s o }⟩
      entryAt t ref = e ∧ (∀ k, k ≠ ref → entryAt t k = entryAt s k) ∧
      { t with entries := s.entries } = ended n b .ok (entryImage ref e) s
    (∀ key, CommandGranted 0x05 n b s → searchableKeyOf b = some key →
      searchKey s key = some ref → ∃ t, exec (.find .finish) s = .next t ∧ report t) ∧
    (CommandGranted 0x06 n b s → (wordAt b 2).toNat = ref → ref < 8256 →
      ∃ t, exec (.read .finish) s = .next t ∧ report t)

/-- ATTACH and DETACH (R103 to R105): refused operands, a stale pair, and a current entry. The parts of an
operation are the model's form (log 3). -/
def Obligations.AttachAndDetach : Prop :=
  (∀ (n : SlotNo) (b : Block) (s : State),
    let p : Pair := ⟨(wordAt b 2).toNat, (wordAt b 3).setWidth 8⟩
    (CommandGranted 0x07 n b s →
      (8256 ≤ p.ref ∨ setOrAnyOf (wordAt b 8) = none →
        exec (.attach .finish) s = .next (ended n b .badArg [] s)) ∧
      (∀ q, p.ref < 8256 → setOrAnyOf (wordAt b 8) = some q → current s p = false →
        exec (.attach .finish) s = .next (ended n b .staleRef [] s))) ∧
    (CommandGranted 0x08 n b s →
      (8256 ≤ p.ref → exec (.detach .finish) s = .next (ended n b .badArg [] s)) ∧
      (p.ref < 8256 → current s p = false →
        exec (.detach .finish) s = .next (ended n b .staleRef [] s)))) ∧
  ∀ (n : SlotNo) (b : Block) (p : Pair) (o : Occupant) (s : State),
    (wordAt b 2).toNat = p.ref → p.ref < 8256 → (wordAt b 3).setWidth 8 = p.generation →
    entryAt s p.ref = ⟨p.generation, some o⟩ →
    (∀ q, CommandGranted 0x07 n b s → setOrAnyOf (wordAt b 8) = some q →
      (∀ k, o.counterSet = some k →
        exec (.attach .finish) s = .next (ended n b .alreadyExists [BitVec.ofNat 16 k] s)) ∧
      (o.counterSet = none →
        (answerRequest q s = none → exec (.attach .finish) s = .next (ended n b .noSet [] s)) ∧
        ∀ k, answerRequest q s = some k →
          exec (.attach .finish) s = .next
            (ended n b .ok [BitVec.ofNat 16 k]
              { s with
                entries := put .reset s.entries p.ref
                  ⟨p.generation, some { o with counterSet := some k }⟩
                counterSets := put .reset s.counterSets k ⟨.attached p, .zero⟩ }))) ∧
    (CommandGranted 0x08 n b s →
      (o.counterSet = none → exec (.detach .finish) s = .next (ended n b .badArg [] s)) ∧
      ∀ k, o.counterSet = some k →
        exec (.detach .finish) s = .next
          (ended n b .ok [BitVec.ofNat 16 k]
            { s with
              entries := put .reset s.entries p.ref ⟨p.generation, some { o with counterSet := none }⟩
              counterSets := put .reset s.counterSets k .reset }))

/-- SET_HASH, SET_SPILL_MARK and READ_TABLE_STATS (R16, R17, R19). The parts of an operation are the model's
form (log 3). -/
def Obligations.TableSettings : Prop :=
  ∀ (n : SlotNo) (b : Block) (s : State),
    (CommandGranted 0x09 n b s →
      (2 < (wordAt b 2).toNat → exec (.setHash .finish) s = .next (ended n b .badArg [] s)) ∧
      ∀ k : Fin 3, (wordAt b 2).toNat = k.val →
        (s.occupancy.main ≠ 0 ∨ s.occupancy.spill ≠ 0 →
          exec (.setHash .finish) s = .next (ended n b .notEmpty [] s)) ∧
        (s.occupancy.main = 0 → s.occupancy.spill = 0 →
          exec (.setHash .finish) s = .next (ended n b .ok [] { s with hashSelect := k }))) ∧
    (CommandGranted 0x0A n b s →
      (64 < (wordAt b 2).toNat → exec (.setSpillMark .finish) s = .next (ended n b .badArg [] s)) ∧
      ((wordAt b 2).toNat ≤ 64 → exec (.setSpillMark .finish) s = .next
        (ended n b .ok [] { s with spillMark := (wordAt b 2).toNat }))) ∧
    (CommandRunning 0x0B n b s →
      let values : TableStats → List Word16 := fun k =>
        [k.learned, k.learnFailures, k.agedOut, k.unconfirmedRetired, k.rejected, k.hostRemoved,
          k.flushed, k.frozen, k.sweepOverruns].flatMap fun v =>
            [BitVec.ofNat 16 (v / 65536), BitVec.ofNat 16 v]
      let left : TableStats :=
        if (wordAt b 1).getLsbD 0 then ⟨0, 0, 0, 0, 0, 0, 0, 0, 0⟩ else s.tableStats
      (nextGrant s = some 8 → exec (.readTableStats .grant) s = .next
        { s with pointer := 9, engine := .readingStats s.tableStats, tableStats := left }) ∧
      (nextGrant s = some 8 → exec (.readTableStats .whole) s = .next
        (ended n b .ok (values s.tableStats) { s with pointer := 9, tableStats := left })) ∧
      ∀ k, s.engine = .readingStats k →
        exec (.readTableStats .finish) s = .next (ended n b .ok (values k) s))

/-- A step of COUNT or SEARCH changes no entry: operands refused at the grant complete the walk (R164; a walk
marked aborted in that grant ends ABORTED, log 10), and otherwise the step moves the walk on or completes it
(R145, R166, R167, R169). The parts of an operation are the model's form (log 3). -/
def Obligations.CountAndSearchStep : Prop :=
  (∀ (n : SlotNo) (b : Block) (w : Walk) (s : State), s.walk = some w → walkOperands w = none →
    let refused : State := ended n b (if w.aborted then .aborted else .badArg)
      [BitVec.ofNat 16 w.stepsDone, BitVec.ofNat 16 w.cursor, BitVec.ofNat 16 w.tally] s
    (CommandGranted 0x11 n b s → exec (.count .finish) s = .next refused) ∧
    (CommandGranted 0x12 n b s → exec (.search .finish) s = .next refused)) ∧
  ∀ (n : SlotNo) (b : Block) (w : Walk) (q : Selector) (s : State), s.walk = some w →
    walkOperands w = some q →
    (CommandGranted 0x11 n b s →
      let found := (stepRefs w.cursor).filter (matchesAt q s)
      let w' : Walk := { w with
        cursor := w.cursor + 1, stepsDone := w.stepsDone + 1, tally := w.tally + found.length }
      let values : List Word16 :=
        [BitVec.ofNat 16 w'.stepsDone, BitVec.ofNat 16 w'.cursor, BitVec.ofNat 16 w'.tally]
      (w.aborted = true → exec (.count .finish) s = .next (ended n b .aborted values s)) ∧
      (w.aborted = false → 2055 ≤ w.cursor →
        exec (.count .finish) s = .next (ended n b .ok values s)) ∧
      (w.aborted = false → w.cursor < 2055 →
        exec (.count .finish) s = .next { s with engine := .idle, walk := some w' })) ∧
    (CommandGranted 0x12 n b s →
      let found := (stepRefs w.cursor).find? fun ref => w.startRef.toNat ≤ ref && matchesAt q s ref
      let w' : Walk := { w with cursor := w.cursor + 1, stepsDone := w.stepsDone + 1 }
      let values : List Word16 :=
        [BitVec.ofNat 16 w'.stepsDone, BitVec.ofNat 16 w'.cursor, BitVec.ofNat 16 w.tally]
      (w.aborted = true → exec (.search .finish) s = .next (ended n b .aborted values s)) ∧
      (w.aborted = false →
        (∀ ref, found = some ref → exec (.search .finish) s = .next
          (ended n b .ok (values ++ entryImage ref (entryAt s ref)) s)) ∧
        (found = none → 2055 ≤ w.cursor →
          exec (.search .finish) s = .next (ended n b .notFound values s)) ∧
        (found = none → w.cursor < 2055 →
          exec (.search .finish) s = .next { s with engine := .idle, walk := some w' })))

/-- A step of FLUSH retires every matching entry of its step and no other, hands their sets to the pool and
counts them (R165); operands refused at the first grant complete the walk with BAD_ARG (R164); a walk marked
aborted ends ABORTED after the step (R145, R169; with refused operands by log 10). The parts of an operation are
the model's form (log 3). -/
def Obligations.FlushStep : Prop :=
  ∀ (n : SlotNo) (b : Block) (w : Walk) (s : State), CommandGranted 0x10 n b s → s.walk = some w →
    (walkOperands w = none → exec (.flush .finish) s = .next
      (ended n b (if w.aborted then .aborted else .badArg)
        [BitVec.ofNat 16 w.stepsDone, BitVec.ofNat 16 w.cursor, BitVec.ofNat 16 w.tally] s)) ∧
    ∀ q, walkOperands w = some q →
      let hits := (stepRefs w.cursor).filter (matchesAt q s)
      let w' : Walk := { w with
        cursor := w.cursor + 1, stepsDone := w.stepsDone + 1, tally := w.tally + hits.length }
      let u : State := { s with
        tableStats := { s.tableStats with
          flushed := upOne^[hits.length] s.tableStats.flushed }
        irqPending := s.irqPending ||| orphansBit hits s }
      let done : Status → State := fun st => ended n b st
        [BitVec.ofNat 16 w'.stepsDone, BitVec.ofNat 16 w'.cursor, BitVec.ofNat 16 w'.tally] u
      ∃ t, exec (.flush .finish) s = .next t ∧ RetiredAll hits s t ∧
        (∀ k, k ∉ hits → entryAt t k = entryAt s k) ∧
        { t with
          entries := s.entries, counterSets := s.counterSets, occupancy := s.occupancy,
          orphaned := s.orphaned } =
          if w.aborted then done .aborted
          else if 2055 ≤ w.cursor then done .ok
          else { u with engine := .idle, walk := some w' }

/-- SET_DOMAIN, READ_DOMAIN, SET_PROFILE and READ_PROFILE (R28, R29, R87, R88). That a refused SET carries
its number is the model's reading (log 9), and so are the codes in the READs' result words (log 14). -/
def Obligations.DomainAndProfileCommands : Prop :=
  (∀ (n : SlotNo) (b : Block) (s : State),
     (CommandRunning 0x20 n b s →
       (255 < (wordAt b 2).toNat →
         exec .setDomain s = .next (finished n b .badArg [wordAt b 2] s)) ∧
       ∀ d : Byte, (wordAt b 2).toNat = d.toNat →
         (domainWritten b (domainAt s d) = none →
           exec .setDomain s = .next (finished n b .badArg [wordAt b 2] s)) ∧
         ∀ r, domainWritten b (domainAt s d) = some r →
           exec .setDomain s = .next (finished n b .ok [wordAt b 2]
             { s with domains := put .reset s.domains d.toNat r })) ∧
     (CommandRunning 0x21 n b s →
       (255 < (wordAt b 2).toNat → exec .readDomain s = .next (finished n b .badArg [] s)) ∧
       ∀ d : Byte, (wordAt b 2).toNat = d.toNat →
         let r := domainAt s d
         exec .readDomain s = .next (finished n b .ok
           [if r.enabled then 1 else 0, r.members.setWidth 16, if r.learning then 1 else 0,
             if r.unknownUnicast = .drop then 1 else 0, if r.unknownGroup = .drop then 1 else 0,
             (match r.defaultProfile with
               | none => 0xFFFF
               | some p => BitVec.ofNat 16 p.val),
             if r.autoCount then 1 else 0, BitVec.ofNat 16 r.moveLimit] s))) ∧
  (∀ (n : SlotNo) (b : Block) (s : State),
     (CommandRunning 0x28 n b s →
       (31 < (wordAt b 2).toNat →
         exec .setProfile s = .next (finished n b .badArg [wordAt b 2] s)) ∧
       ∀ p : ProfileNo, (wordAt b 2).toNat = p.val →
         (profileWritten b (profileAt s p) = none →
           exec .setProfile s = .next (finished n b .badArg [wordAt b 2] s)) ∧
         ∀ r, profileWritten b (profileAt s p) = some r →
           exec .setProfile s = .next (finished n b .ok [wordAt b 2]
             { s with profiles := put .reset s.profiles p.val r })) ∧
     (CommandRunning 0x29 n b s →
       (31 < (wordAt b 2).toNat → exec .readProfile s = .next (finished n b .badArg [] s)) ∧
       ∀ p : ProfileNo, (wordAt b 2).toNat = p.val →
         let r := profileAt s p
         exec .readProfile s = .next (finished n b .ok
           [if r.enabled then 1 else 0, r.refill, BitVec.ofNat 16 (r.ceiling / 65536),
             BitVec.ofNat 16 r.ceiling, if r.action = .pause then 1 else 0, r.quantum] s)))

/-- Which operands the commands refuse and what they read. SET_DOMAIN and SET_PROFILE: what each named field
becomes, a value that is not named being neither checked nor written (R28, R87). The key of REMOVE_KEY and FIND,
and the set of ATTACH (R104, R158, R159). INSERT's and UPDATE's test 1 (R151, R154). A walk's selector, and when
an entry matches it (R163, R164). -/
def Obligations.FieldSelections : Prop :=
  ((∀ (b : Block) (r r' : Domain), domainWritten b r = some r' ↔
    let named := (wordAt b 1).getLsbD
    (if named 0 then (wordAt b 8 = 0 ∧ r'.enabled = false) ∨ (wordAt b 8 = 1 ∧ r'.enabled = true)
      else r'.enabled = r.enabled) ∧
    (if named 1 then r'.members = (wordAt b 9).setWidth 8 else r'.members = r.members) ∧
    (if named 2 then r'.learning = (wordAt b 10).getLsbD 0 else r'.learning = r.learning) ∧
    (if named 3 then (wordAt b 11 = 0 ∧ r'.unknownUnicast = .flood) ∨
        (wordAt b 11 = 1 ∧ r'.unknownUnicast = .drop)
      else r'.unknownUnicast = r.unknownUnicast) ∧
    (if named 4 then (wordAt b 12 = 0 ∧ r'.unknownGroup = .flood) ∨
        (wordAt b 12 = 1 ∧ r'.unknownGroup = .drop)
      else r'.unknownGroup = r.unknownGroup) ∧
    (if named 5 then (wordAt b 13 = 0xFFFF ∧ r'.defaultProfile = none) ∨
        (∃ p, r'.defaultProfile = some p ∧ (wordAt b 13).toNat = p.val)
      else r'.defaultProfile = r.defaultProfile) ∧
    (if named 6 then r'.autoCount = (wordAt b 10).getLsbD 1 else r'.autoCount = r.autoCount) ∧
    (if named 7 then (wordAt b 14).toNat ≤ 15 ∧ r'.moveLimit = (wordAt b 14).toNat
      else r'.moveLimit = r.moveLimit)) ∧
  ∀ (b : Block) (r r' : Profile), profileWritten b r = some r' ↔
    let named := (wordAt b 1).getLsbD
    let ceiling := (wordAt b 10).toNat * 65536 + (wordAt b 11).toNat
    (if named 0 then (wordAt b 8 = 0 ∧ r'.enabled = false) ∨ (wordAt b 8 = 1 ∧ r'.enabled = true)
      else r'.enabled = r.enabled) ∧
    (if named 1 then r'.refill = wordAt b 9 else r'.refill = r.refill) ∧
    (if named 2 then 1 ≤ ceiling ∧ ceiling ≤ 16777215 ∧ r'.ceiling = ceiling
      else r'.ceiling = r.ceiling) ∧
    (if named 3 then (wordAt b 12 = 0 ∧ r'.action = .drop) ∨ (wordAt b 12 = 1 ∧ r'.action = .pause)
      else r'.action = r.action) ∧
    (if named 4 then wordAt b 13 ≠ 0 ∧ r'.quantum = wordAt b 13 else r'.quantum = r.quantum)) ∧
  ((∀ (b : Block) (k : Key), searchableKeyOf b = some k ↔
      (wordAt b 4).toNat = k.domain.toNat ∧ k.address = wordAt b 5 ++ wordAt b 6 ++ wordAt b 7 ∧
      addressClass k.address ≠ .broadcast) ∧
   (∀ (w : Word16) (q : SetRequest), setOrAnyOf w = some q ↔
      (w = 0xFFFE ∧ q = .any) ∨ ∃ k, k < 1024 ∧ w.toNat = k ∧ q = .named k) ∧
   ∀ (b : Block) (o : InsertOperands), insertOperands b = some o ↔
      (wordAt b 4).toNat = o.key.domain.toNat ∧
      o.key.address = wordAt b 5 ++ wordAt b 6 ++ wordAt b 7 ∧
      ((wordAt b 8 = 0 ∧ o.isGroup = false ∧ ∃ l, o.home = some l ∧ (wordAt b 10).toNat = l.val) ∨
        (wordAt b 8 = 1 ∧ o.isGroup = true ∧ o.home = none)) ∧
      ((wordAt b 9 = 0 ∧ o.isStatic = false) ∨ (wordAt b 9 = 1 ∧ o.isStatic = true)) ∧
      o.members = (wordAt b 11).setWidth 8 ∧
      ((wordAt b 12 = 0 ∧ o.sourcePolicy = .allow) ∨ (wordAt b 12 = 1 ∧ o.sourcePolicy = .deny)) ∧
      ((wordAt b 13 = 0 ∧ o.destinationPolicy = .allow) ∨
        (wordAt b 13 = 1 ∧ o.destinationPolicy = .deny)) ∧
      ((wordAt b 14 = 0xFFFF ∧ o.profile = none) ∨
        ∃ p, o.profile = some p ∧ (wordAt b 14).toNat = p.val) ∧
      ((wordAt b 2 = 0xFFFF ∧ o.counter = none) ∨ (wordAt b 2 = 0xFFFE ∧ o.counter = some .any) ∨
        ∃ k, k < 1024 ∧ (wordAt b 2).toNat = k ∧ o.counter = some (.named k))) ∧
  (∀ (b : Block) (u : UpdateChanges), updateChanges b = some u ↔
    let named := (wordAt b 1).getLsbD
    u.pin = named 0 ∧ u.unpin = named 1 ∧ ¬(named 0 = true ∧ named 1 = true) ∧
    (if named 2 then ∃ l, u.home = some l ∧ (wordAt b 10).toNat = l.val else u.home = none) ∧
    (if named 3 then (wordAt b 11).setWidth 8 ≠ 0#8 ∧ u.members = some ((wordAt b 11).setWidth 8)
      else u.members = none) ∧
    (if named 4 then (wordAt b 12 = 0 ∧ u.sourcePolicy = some .allow) ∨
        (wordAt b 12 = 1 ∧ u.sourcePolicy = some .deny)
      else u.sourcePolicy = none) ∧
    (if named 5 then (wordAt b 13 = 0 ∧ u.destinationPolicy = some .allow) ∨
        (wordAt b 13 = 1 ∧ u.destinationPolicy = some .deny)
      else u.destinationPolicy = none) ∧
    (if named 6 then (wordAt b 14 = 0xFFFF ∧ u.meter = some none) ∨
        (∃ p, u.meter = some (some p) ∧ (wordAt b 14).toNat = p.val)
      else u.meter = none) ∧
    u.unfreeze = named 7 ∧ u.clearMoves = named 8) ∧
  (∀ (w : Walk) (q : Selector), walkOperands w = some q ↔
    w.startRef.toNat < 8256 ∧
    ((w.domain = 0xFFFE ∧ q.domain = none) ∨ ∃ d, q.domain = some d ∧ w.domain.toNat = d.toNat) ∧
    ((w.lane = 0xFFFE ∧ q.lane = none) ∨ ∃ l, q.lane = some l ∧ w.lane.toNat = l.val) ∧
    ((w.cls = 0 ∧ q.cls = .learned) ∨ (w.cls = 1 ∧ q.cls = .pinned) ∨ (w.cls = 2 ∧ q.cls = .both)) ∧
    ((w.kind = 0 ∧ q.kind = .unicast) ∨ (w.kind = 1 ∧ q.kind = .group) ∨
      (w.kind = 2 ∧ q.kind = .both))) ∧
  ∀ (q : Selector) (s : State) (ref : Nat), matchesAt q s ref = true ↔
    ∃ o, (entryAt s ref).occupant = some o ∧ (∀ d, q.domain = some d → o.key.domain = d) ∧
      (∀ l, q.lane = some l → o.place = .unicast l) ∧
      (q.cls = .learned → o.life ≠ .pinned) ∧ (q.cls = .pinned → o.life = .pinned) ∧
      (q.kind = .unicast → ∃ l, o.place = .unicast l) ∧
      (q.kind = .group → ∃ m, o.place = .group m)

/-- READ_COUNTERS, RECLAIM and SET_POOL (R109, R111, R112). -/
def Obligations.PoolCommands : Prop :=
  ∀ (n : SlotNo) (b : Block) (s : State),
    (CommandRunning 0x30 n b s →
      (1023 < (wordAt b 2).toNat → exec .readCounters s = .next (finished n b .badArg [] s)) ∧
      ((wordAt b 2).toNat < 1024 →
        let k := (wordAt b 2).toNat
        let c := counterSetAt s k
        let values := setStateWords k c.state ++ countsWords c.counts
        ((wordAt b 1).getLsbD 0 = false →
          exec .readCounters s = .next (finished n b .ok values s)) ∧
        ((wordAt b 1).getLsbD 0 = true →
          exec .readCounters s = .next (finished n b .ok values
            { s with counterSets := put .reset s.counterSets k ⟨c.state, ⟨0, 0, 0, 0, 0⟩⟩ })))) ∧
    (CommandRunning 0x31 n b s →
      (1023 < (wordAt b 2).toNat ∨ (∀ key, (counterSetAt s (wordAt b 2).toNat).state ≠ .orphaned key) →
        exec .reclaim s = .next (finished n b .badArg [] s)) ∧
      (∀ key, (wordAt b 2).toNat < 1024 → (counterSetAt s (wordAt b 2).toNat).state = .orphaned key →
        exec .reclaim s = .next (finished n b .ok []
          { s with
            counterSets := put .reset s.counterSets (wordAt b 2).toNat .reset
            orphaned := s.orphaned - 1 }))) ∧
    (CommandRunning 0x32 n b s →
      (1 < (wordAt b 8).toNat ∨ 1024 < (wordAt b 9).toNat →
        exec .setPool s = .next (finished n b .badArg [] s)) ∧
      ((wordAt b 8).toNat ≤ 1 → (wordAt b 9).toNat ≤ 1024 →
        exec .setPool s = .next (finished n b .ok []
          { s with
            autoReclaim := decide (wordAt b 8 = 1), orphanMark := (wordAt b 9).toNat })))

/-- LANE_ENABLE, LANE_SET, LANE_DISABLE, LANE_RELEASE, READ_LANE_STATS and PAUSE_CANCEL (R100, R117 to R120,
R138). -/
def Obligations.LaneCommands : Prop :=
  (∀ (n : SlotNo) (b : Block) (l : LaneNo) (s : State), (wordAt b 2).toNat = l.val →
     let x := laneAt s l
     let named := (wordAt b 1).getLsbD
     let sets : Lane → State := fun y => { s with lanes := put .reset s.lanes l.val y }
     let bad : State := finished n b .badArg [] s
     (CommandRunning 0x40 n b s →
       let fit : Prop := (wordAt b 8).toNat ≤ 1 ∧ (wordAt b 9).toNat ≤ 1 ∧ (wordAt b 10).toNat ≤ 255
       (¬fit ∨ x.state ≠ .down → exec .laneEnable s = .next bad) ∧
       (fit → x.state = .down → exec .laneEnable s = .next (finished n b .ok [] (sets
         { x with
           state := .waiting, receiveOpen := false
           learning := decide (wordAt b 8 = 1), pauseOn := decide (wordAt b 9 = 1)
           settleTimeout := (wordAt b 10).setWidth 8 })))) ∧
     (CommandRunning 0x41 n b s →
       let fit : Prop := (named 0 = true → (wordAt b 8).toNat ≤ 1) ∧
         (named 1 = true → (wordAt b 9).toNat ≤ 1) ∧ (named 2 = true → (wordAt b 10).toNat ≤ 255)
       (¬fit → exec .laneSet s = .next bad) ∧
       (fit → exec .laneSet s = .next (finished n b .ok [] (sets
         { x with
           learning := if named 0 then decide (wordAt b 8 = 1) else x.learning
           pauseOn := if named 1 then decide (wordAt b 9 = 1) else x.pauseOn
           settleTimeout := if named 2 then (wordAt b 10).setWidth 8 else x.settleTimeout })))) ∧
     (CommandRunning 0x42 n b s →
       (x.state = .down → exec .laneDisable s = .next (finished n b .ok [] (sets x))) ∧
       (x.state ≠ .down → exec .laneDisable s = .next (finished n b .ok [] (sets
         { closedOut x with state := .down, receiveOpen := false })))) ∧
     (CommandRunning 0x43 n b s →
       (x.state ≠ .held → exec .laneRelease s = .next bad) ∧
       (x.state = .held → exec .laneRelease s =
         .next (finished n b .ok [] (sets { x with state := .waiting }))))) ∧
  (∀ (n : SlotNo) (b : Block) (s : State),
     (∀ l : LaneNo, (wordAt b 2).toNat = l.val →
       let x := laneAt s l
       let sets : Lane → State := fun y => { s with lanes := put .reset s.lanes l.val y }
       (CommandRunning 0x44 n b s →
         ((wordAt b 1).getLsbD 0 = false →
           exec .readLaneStats s = .next (finished n b .ok (laneWords x) s)) ∧
         ((wordAt b 1).getLsbD 0 = true →
           exec .readLaneStats s = .next (finished n b .ok (laneWords x) (sets
             { x with stats := ⟨0, 0, 0, 0, 0, 0, 0, 0, 0, 0, 0, 0, 0, 0, 0, 0⟩ })))) ∧
       (CommandRunning 0x45 n b s →
         (x.pause = .idle → exec .pauseCancel s = .next (finished n b .ok [] (sets x))) ∧
         (∀ remaining q, x.pause = .pausing remaining q →
           exec .pauseCancel s = .next (finished n b .ok [] (sets
             { x with pause := .idle, waiting := x.waiting ++ [.resume] }))))) ∧
     (7 < (wordAt b 2).toNat →
       ∀ p ∈ [((0x40 : Byte), Instr.laneEnable), (0x41, .laneSet), (0x42, .laneDisable),
           (0x43, .laneRelease), (0x44, .readLaneStats), (0x45, .pauseCancel)],
         CommandRunning p.1 n b s → exec p.2 s = .next (finished n b .badArg [] s)))

/-! ### The Host Window -/

/-- SUBMIT fills the lowest EMPTY slot or reads FULL (R141); RETIRE empties a DONE slot and no other
(R144). -/
def Obligations.SubmitAndRetire : Prop :=
  ∀ (v : Word16) (s : State), awake s →
    (∀ n : SlotNo, slotAt s n = .empty → (∀ m : SlotNo, m < n → slotAt s m ≠ .empty) →
      exec (.submit v) s = .next
        { s with
          slots := put .empty s.slots n.val (.pending s.submission)
          order := s.order ++ [n]
          submitStatus := .slot n }) ∧
    ((∀ n : SlotNo, slotAt s n ≠ .empty) →
      exec (.submit v) s = .next { s with submitStatus := .full }) ∧
    (∀ (n : SlotNo) b r, v.toNat = n.val → slotAt s n = .done b r →
      exec (.retire v) s = .next { s with slots := put .empty s.slots n.val .empty }) ∧
    (3 < v.toNat ∨ (∃ n : SlotNo, v.toNat = n.val ∧ ∀ b r, slotAt s n ≠ .done b r) →
      exec (.retire v) s = .next s)

/-- ABORT acts by the slot's state and its command (R145). That an aborted PENDING walk carries no values is
the model's reading (log 9). -/
def Obligations.AbortActs : Prop :=
  ∀ (v : Word16) (s : State), awake s →
    (3 < v.toNat → exec (.abort v) s = .next s) ∧
    ∀ n : SlotNo, v.toNat = n.val →
      ((slotAt s n = .empty ∨ ∃ b r, slotAt s n = .done b r) → exec (.abort v) s = .next s) ∧
      (∀ b, slotAt s n = .pending b →
        exec (.abort v) s = .next
          { s with
            slots := put .empty s.slots n.val (.done b ⟨codeOf b, .aborted, []⟩)
            order := s.order.filter (· != n)
            irqPending := s.irqPending ||| 1#16 }) ∧
      (∀ b, slotAt s n = .running b →
        (isWalkCode (codeOf b) = false → exec (.abort v) s = .next s) ∧
        (∀ w, isWalkCode (codeOf b) = true → s.walk = some w →
          (s.engine = .command →
            exec (.abort v) s = .next { s with walk := some { w with aborted := true } }) ∧
          (s.engine ≠ .command →
            exec (.abort v) s = .next (finished n b .aborted
              [BitVec.ofNat 16 w.stepsDone, BitVec.ofNat 16 w.cursor, BitVec.ofNat 16 w.tally] s))))

/-- The interrupt words (R178, R179): a one clears its pending bit and nothing else, a write replaces the
enable set, and INT# is low exactly while some cause is pending and enabled. -/
def Obligations.InterruptWords : Prop :=
  (∀ (v : Word16) (s : State), awake s →
    exec (.interruptPending v) s = .next { s with irqPending := s.irqPending &&& ~~~v }) ∧
  (∀ (v : Word16) (s : State), awake s →
    exec (.interruptEnable v) s = .next { s with irqEnable := v &&& 0x3FFF }) ∧
  ∀ s : State, awake s →
    (intPin s = false ↔ ∃ k, s.irqPending.getLsbD k = true ∧ s.irqEnable.getLsbD k = true)

/-- The divider word, the read of the counter's low word with its capture (the field that holds the word read is
the model's, log 8), the submission words, and writes to readouts and unassigned addresses (R172, R173, R177,
R180). And what a read of each word gives: the readouts, the result areas with their pages, and 0 from action
words and unassigned addresses (R14, R173 to R177, R186, Table 11-4). -/
def Obligations.WindowWords : Prop :=
  (∀ s : State, awake s →
    (∀ v : Word16, v.setWidth 8 ≠ 0#8 →
      exec (.timebaseDivider v) s = .next { s with divider := v.setWidth 8 }) ∧
    (∀ v : Word16, v.setWidth 8 = 0#8 → exec (.timebaseDivider v) s = .next s) ∧
    exec .millisecondCounterLowRead s = .next
      { s with readData := s.ms.setWidth 16, highCapture := (s.ms >>> 16).setWidth 16 } ∧
    (∀ (a : BitVec 7) (v : Word16), a.toNat < 16 →
      exec (.registerWrite a v) s = .next
        { s with submission := put 0 s.submission a.toNat v } ∧
      windowRead s a = wordAt s.submission a.toNat) ∧
    (∀ (a : BitVec 7) (v : Word16), 16 ≤ a.toNat → (Instr.registerWrite a v).wellFormed = true →
      exec (.registerWrite a v) s = .next s)) ∧
  (∀ s : State, awake s →
    let shown : Occupancy := match s.engine with
      | .resolved _ _ before => before
      | .settled _ _ before => before
      | _ => s.occupancy
    windowRead s 0x13 = (match s.submitStatus with
      | .none => 0xFFFF
      | .slot n => BitVec.ofNat 16 n.val
      | .full => 0x8000) ∧
    windowRead s 0x60 = s.irqPending ∧ windowRead s 0x61 = s.irqEnable ∧
    windowRead s 0x62 = BitVec.ofNat 16 shown.main ∧ windowRead s 0x63 = BitVec.ofNat 16 shown.spill ∧
    windowRead s 0x64 = BitVec.ofNat 16 shown.free ∧
    windowRead s 0x65 = (if s.sweepRunning then 0x8000 else 0) ||| BitVec.ofNat 16 s.sweepCursor ∧
    (∀ n : SlotNo, (windowRead s 0x66 >>> (2 * n.val)) &&& 3 = (match slotAt s n with
      | .empty => 0
      | .pending _ => 1
      | .running _ => 2
      | .done _ _ => 3)) ∧ windowRead s 0x66 >>> 8 = 0 ∧
    (∀ l : LaneNo, (windowRead s 0x67 >>> (2 * l.val)) &&& 3 = (match (laneAt s l).state with
      | .down => 0
      | .waiting => 1
      | .ready => 2
      | .held => 3)) ∧
    windowRead s 0x68 = BitVec.ofNat 16 s.orphaned ∧ windowRead s 0x69 = s.ms.setWidth 16 ∧
    windowRead s 0x6A = s.highCapture ∧ windowRead s 0x70 = s.divider.setWidth 16) ∧
  ∀ s : State, awake s →
    (∀ (n : SlotNo) (i : Fin 16),
      let read := windowRead s (BitVec.ofNat 7 (32 + 16 * n.val + i.val))
      let page := (wordAt s.submission 15).toNat % 4
      ((∀ b r, slotAt s n ≠ .done b r) → read = 0) ∧
      (∀ b r, slotAt s n = .done b r →
        (i.val = 0 → read = r.code ++ statusCode r.status) ∧
        (i.val ≠ 0 → read = r.values.getD (15 * page + i.val - 1) 0))) ∧
    ∀ a : BitVec 7,
      (a ∈ [0x10, 0x11, 0x12, 0x7F] ∨ (0x14 ≤ a ∧ a < 0x20) ∨ (0x6B ≤ a ∧ a < 0x70) ∨
        (0x70 < a ∧ a < 0x7F)) → windowRead s a = 0

/-! ### The laws that every step keeps -/

/-- A PINNED entry is changed by the host's commands alone: under every other command it keeps all but its
meter (R11). -/
def Obligations.PinnedKept : Prop :=
  ∀ (c : Instr) (s t : State) (k : Nat) (o : Occupant), c.wellFormed = true →
    isHostChange c = false → (entryAt s k).occupant = some o → o.life = .pinned →
    exec c s = .next t → sameButMeter (entryAt t k) (entryAt s k)

/-- Bringing a meter up at one time and again at a later one under one profile gives what bringing it up
once at the later time gives, as long as the counter has not run round between (R91). -/
def Obligations.BringUpsCompose : Prop :=
  ∀ (p : Profile) (m : Meter) (t₁ t₂ : Time),
    (t₁ - m.stamp).toNat + (t₂ - t₁).toNat < 4294967296 →
    broughtUp p t₂ (broughtUp p t₁ m) = broughtUp p t₂ m

/-- The reset state meets every law below. Its stores are the model's representation, which lists no record that
stands at its reset value (log 7). -/
def Obligations.ResetMeetsTheLaws : Prop :=
  StoresCanonical .reset ∧ SettingsLegal .reset ∧ RecordsLegal .reset ∧ EntriesLegal .reset ∧
  OccupancyTrue .reset ∧ KeysPlaced .reset ∧ PoolPaired .reset ∧ LanesLawful .reset ∧
  SlotsOrdered .reset

/-- Every step keeps every store in its canonical form. The stores and their form are the model's representation
of the manual's tables (log 7). -/
def Obligations.StepKeepsStores : Prop :=
  ∀ s t : State, StoresCanonical s → step s = .next t → StoresCanonical t

/-- Every step keeps the settings and counts, the records of domains and profiles, and the fields of every
occupied entry within what the manual gives them; where a count has ended and its end is still to be taken, the
model's form adds 1000 to the sub-millisecond count's values and 0 to the age timer's (log 5). -/
def Obligations.StepKeepsValues : Prop :=
  (∀ s t : State, SettingsLegal s → step s = .next t → SettingsLegal t) ∧
  (∀ s t : State, RecordsLegal s → step s = .next t → RecordsLegal t) ∧
  ∀ s t : State, RecordsLegal s → EntriesLegal s → step s = .next t → EntriesLegal t

/-- Every step keeps the occupancy counts equal to what they count, each key in one entry at most, and every
main entry in its key's bucket. -/
def Obligations.StepKeepsTable : Prop :=
  (∀ s t : State, OccupancyTrue s → step s = .next t → OccupancyTrue t) ∧
  ∀ s t : State, OccupancyTrue s → KeysPlaced s → step s = .next t → KeysPlaced t

/-- Every step keeps the pairing of counter sets and entries, and the orphaned count. -/
def Obligations.StepKeepsPool : Prop :=
  ∀ s t : State, PoolPaired s → step s = .next t → PoolPaired t

/-- Every step keeps the laws of the lanes and of their items. -/
def Obligations.StepKeepsLanes : Prop :=
  ∀ s t : State, LanesLawful s → step s = .next t → LanesLawful t

/-- Every step keeps the submission order and the one RUNNING slot. -/
def Obligations.StepKeepsSlots : Prop :=
  ∀ s t : State, SlotsOrdered s → step s = .next t → SlotsOrdered t
end

