-- ==== Sys2Proof/Laws/Stores.lean ====
section
/-!
SUPPORT. The laws of the sparse stores: what a read gives after a write, and that a write keeps the
canonical form.
-/

namespace Sys2Proof.Machine

variable {α : Type}

/-- A read of the number just inserted gives the record inserted. -/
theorem fetch_insertAt_same (d : α) (m : Store α) (n : Nat) (v : α) :
    fetch d (insertAt m n v) n = v := by
  induction m with
  | nil => simp [insertAt, fetch]
  | cons p rest ih =>
    obtain ⟨k, w⟩ := p
    simp only [insertAt]
    split
    · simp [fetch]
    · split
      · simp [fetch]
      · rename_i h
        simp [fetch, Ne.symm h, ih]

/-- A read of another number is unchanged by an insertion. -/
theorem fetch_insertAt_other (d : α) (m : Store α) {n k : Nat} (v : α) (h : k ≠ n) :
    fetch d (insertAt m n v) k = fetch d m k := by
  induction m with
  | nil => simp [insertAt, fetch, Ne.symm h]
  | cons p rest ih =>
    obtain ⟨j, w⟩ := p
    simp only [insertAt]
    split
    · simp [fetch, Ne.symm h]
    · split
      · rename_i e
        subst e
        simp [fetch, Ne.symm h]
      · simp [fetch, ih]

/-- A read of the number just erased gives the reset value. -/
theorem fetch_eraseAt_same (d : α) (m : Store α) (n : Nat) : fetch d (eraseAt m n) n = d := by
  induction m with
  | nil => rfl
  | cons p rest ih =>
    obtain ⟨k, w⟩ := p
    by_cases h : k = n <;> simp_all [eraseAt, fetch]

/-- A read of another number is unchanged by an erasure. -/
theorem fetch_eraseAt_other (d : α) (m : Store α) {n k : Nat} (h : k ≠ n) :
    fetch d (eraseAt m n) k = fetch d m k := by
  induction m with
  | nil => rfl
  | cons p rest ih =>
    obtain ⟨j, w⟩ := p
    by_cases e : j = n
    · subst e
      simp_all [eraseAt, fetch, Ne.symm h]
    · simp_all [eraseAt, fetch]

/-- A read after a write to the same number gives what was written. -/
@[simp] theorem fetch_put_same [DecidableEq α] (d : α) (m : Store α) (n : Nat) (v : α) :
    fetch d (put d m n v) n = v := by
  unfold put
  split
  · rename_i h
    rw [fetch_eraseAt_same, h]
  · exact fetch_insertAt_same d m n v

/-- A read of another number is unchanged by a write. -/
theorem fetch_put_other [DecidableEq α] (d : α) (m : Store α) {n k : Nat} (v : α) (h : k ≠ n) :
    fetch d (put d m n v) k = fetch d m k := by
  unfold put
  split
  · exact fetch_eraseAt_other d m h
  · exact fetch_insertAt_other d m v h

/-- A read after a write, in one equation. -/
theorem fetch_put [DecidableEq α] (d : α) (m : Store α) (n k : Nat) (v : α) :
    fetch d (put d m n v) k = if k = n then v else fetch d m k := by
  by_cases h : k = n
  · subst h; simp
  · simp [h, fetch_put_other d m v h]

/-- What an insertion lists: the new record, or one that was listed under another number. -/
theorem mem_insertAt {m : Store α} {n : Nat} {v : α} {p : Nat × α} (h : p ∈ insertAt m n v) :
    p = (n, v) ∨ (p ∈ m) := by
  induction m with
  | nil => simp_all [insertAt]
  | cons q rest ih =>
    obtain ⟨k, w⟩ := q
    simp only [insertAt] at h
    split at h
    · simp_all
    · split at h
      · simp_all
        tauto
      · simp at h
        rcases h with h | h
        · simp [h]
        · rcases ih h with h | h <;> simp [h]

/-- An insertion keeps the numbers strictly rising. -/
theorem insertAt_sorted {m : Store α} (n : Nat) (v : α) (h : m.Pairwise fun p q => p.1 < q.1) :
    (insertAt m n v).Pairwise fun p q => p.1 < q.1 := by
  induction m with
  | nil => simp [insertAt]
  | cons q rest ih =>
    obtain ⟨k, w⟩ := q
    simp only [List.pairwise_cons] at h
    simp only [insertAt]
    split
    · rename_i hn
      simp only [List.pairwise_cons, List.mem_cons]
      refine ⟨?_, h.1, h.2⟩
      rintro p (rfl | hp)
      · exact hn
      · exact Nat.lt_trans hn (h.1 p hp)
    · split
      · rename_i e
        subst e
        simpa using h
      · rename_i hn hne
        simp only [List.pairwise_cons]
        refine ⟨fun p hp => ?_, ih h.2⟩
        rcases mem_insertAt hp with rfl | hp
        · show k < n; omega
        · exact h.1 p hp

/-- An insertion of a record that is not the reset value keeps the canonical form. -/
theorem insertAt_canonical {d : α} {m : Store α} {n : Nat} {v : α} (hv : v ≠ d)
    (h : canonical d m) : canonical d (insertAt m n v) :=
  ⟨insertAt_sorted n v h.1, fun p hp => by
    rcases mem_insertAt hp with rfl | hp
    · exact hv
    · exact h.2 p hp⟩

/-- An erasure keeps the canonical form. -/
theorem eraseAt_canonical {d : α} {m : Store α} (n : Nat) (h : canonical d m) :
    canonical d (eraseAt m n) :=
  ⟨h.1.filter _, fun p hp => h.2 p (List.mem_filter.1 hp).1⟩

/-- A write keeps the canonical form. -/
theorem put_canonical [DecidableEq α] {d : α} {m : Store α} (n : Nat) (v : α)
    (h : canonical d m) : canonical d (put d m n v) := by
  unfold put
  split
  · exact eraseAt_canonical n h
  · rename_i hv
    exact insertAt_canonical hv h

/-- Of two writes to one number the second stands, when the first wrote no reset value. -/
theorem put_put [DecidableEq α] {d : α} (m : Store α) (n : Nat) {v : α} (w : α) (hv : v ≠ d) :
    put d (put d m n v) n w = put d m n w := by
  unfold put
  simp only [hv, if_false]
  split
  · unfold eraseAt
    induction m with
    | nil => simp [insertAt]
    | cons p rest ih =>
      obtain ⟨k, x⟩ := p
      simp only [insertAt]
      split
      · simp
      · split
        · rename_i e
          subst e
          simp
        · simp [List.filter_cons, ih]
  · induction m with
    | nil => simp [insertAt]
    | cons p rest ih =>
      obtain ⟨k, x⟩ := p
      simp only [insertAt]
      split
      · simp [insertAt]
      · split
        · rename_i e
          subst e
          simp [insertAt]
        · simp_all [insertAt]

/-- The empty store is canonical, and every read of it gives the reset value. -/
theorem canonical_nil (d : α) : canonical d ([] : Store α) := by simp [canonical]

end Sys2Proof.Machine
end

