-- ==== Sys2Proof/Laws/State.lean ====
section
/-!
SUPPORT. One lemma for each field under each named write of the state, and what each named read gives
after each named write, so that no later proof unfolds a record update.
-/

namespace Sys2Proof.Machine

/-! ### Fields under the named writes -/

section setEntry
variable (ref : Nat) (e : Entry) (s : State)
@[simp] theorem setEntry_pending : (setEntry ref e s).pending = s.pending := rfl
@[simp] theorem setEntry_resetLow : (setEntry ref e s).resetLow = s.resetLow := rfl
@[simp] theorem setEntry_readData : (setEntry ref e s).readData = s.readData := rfl
@[simp] theorem setEntry_entries : (setEntry ref e s).entries = put .reset s.entries ref e := rfl
@[simp] theorem setEntry_occupancy : (setEntry ref e s).occupancy = s.occupancy := rfl
@[simp] theorem setEntry_hashSelect : (setEntry ref e s).hashSelect = s.hashSelect := rfl
@[simp] theorem setEntry_spillMark : (setEntry ref e s).spillMark = s.spillMark := rfl
@[simp] theorem setEntry_tableStats : (setEntry ref e s).tableStats = s.tableStats := rfl
@[simp] theorem setEntry_pointer : (setEntry ref e s).pointer = s.pointer := rfl
@[simp] theorem setEntry_engine : (setEntry ref e s).engine = s.engine := rfl
@[simp] theorem setEntry_domains : (setEntry ref e s).domains = s.domains := rfl
@[simp] theorem setEntry_profiles : (setEntry ref e s).profiles = s.profiles := rfl
@[simp] theorem setEntry_counterSets : (setEntry ref e s).counterSets = s.counterSets := rfl
@[simp] theorem setEntry_autoReclaim : (setEntry ref e s).autoReclaim = s.autoReclaim := rfl
@[simp] theorem setEntry_orphanMark : (setEntry ref e s).orphanMark = s.orphanMark := rfl
@[simp] theorem setEntry_orphaned : (setEntry ref e s).orphaned = s.orphaned := rfl
@[simp] theorem setEntry_agePeriod : (setEntry ref e s).agePeriod = s.agePeriod := rfl
@[simp] theorem setEntry_ageTimer : (setEntry ref e s).ageTimer = s.ageTimer := rfl
@[simp] theorem setEntry_sweepRunning : (setEntry ref e s).sweepRunning = s.sweepRunning := rfl
@[simp] theorem setEntry_sweepCursor : (setEntry ref e s).sweepCursor = s.sweepCursor := rfl
@[simp] theorem setEntry_lanes : (setEntry ref e s).lanes = s.lanes := rfl
@[simp] theorem setEntry_slots : (setEntry ref e s).slots = s.slots := rfl
@[simp] theorem setEntry_order : (setEntry ref e s).order = s.order := rfl
@[simp] theorem setEntry_walk : (setEntry ref e s).walk = s.walk := rfl
@[simp] theorem setEntry_submission : (setEntry ref e s).submission = s.submission := rfl
@[simp] theorem setEntry_submitStatus : (setEntry ref e s).submitStatus = s.submitStatus := rfl
@[simp] theorem setEntry_irqPending : (setEntry ref e s).irqPending = s.irqPending := rfl
@[simp] theorem setEntry_irqEnable : (setEntry ref e s).irqEnable = s.irqEnable := rfl
@[simp] theorem setEntry_highCapture : (setEntry ref e s).highCapture = s.highCapture := rfl
@[simp] theorem setEntry_divider : (setEntry ref e s).divider = s.divider := rfl
@[simp] theorem setEntry_tickDivider : (setEntry ref e s).tickDivider = s.tickDivider := rfl
@[simp] theorem setEntry_subMs : (setEntry ref e s).subMs = s.subMs := rfl
@[simp] theorem setEntry_ms : (setEntry ref e s).ms = s.ms := rfl
end setEntry

section setDomainAt
variable (d : Byte) (r : Domain) (s : State)
@[simp] theorem setDomainAt_pending : (setDomainAt d r s).pending = s.pending := rfl
@[simp] theorem setDomainAt_resetLow : (setDomainAt d r s).resetLow = s.resetLow := rfl
@[simp] theorem setDomainAt_readData : (setDomainAt d r s).readData = s.readData := rfl
@[simp] theorem setDomainAt_entries : (setDomainAt d r s).entries = s.entries := rfl
@[simp] theorem setDomainAt_occupancy : (setDomainAt d r s).occupancy = s.occupancy := rfl
@[simp] theorem setDomainAt_hashSelect : (setDomainAt d r s).hashSelect = s.hashSelect := rfl
@[simp] theorem setDomainAt_spillMark : (setDomainAt d r s).spillMark = s.spillMark := rfl
@[simp] theorem setDomainAt_tableStats : (setDomainAt d r s).tableStats = s.tableStats := rfl
@[simp] theorem setDomainAt_pointer : (setDomainAt d r s).pointer = s.pointer := rfl
@[simp] theorem setDomainAt_engine : (setDomainAt d r s).engine = s.engine := rfl
@[simp] theorem setDomainAt_domains : (setDomainAt d r s).domains = put .reset s.domains d.toNat r := rfl
@[simp] theorem setDomainAt_profiles : (setDomainAt d r s).profiles = s.profiles := rfl
@[simp] theorem setDomainAt_counterSets : (setDomainAt d r s).counterSets = s.counterSets := rfl
@[simp] theorem setDomainAt_autoReclaim : (setDomainAt d r s).autoReclaim = s.autoReclaim := rfl
@[simp] theorem setDomainAt_orphanMark : (setDomainAt d r s).orphanMark = s.orphanMark := rfl
@[simp] theorem setDomainAt_orphaned : (setDomainAt d r s).orphaned = s.orphaned := rfl
@[simp] theorem setDomainAt_agePeriod : (setDomainAt d r s).agePeriod = s.agePeriod := rfl
@[simp] theorem setDomainAt_ageTimer : (setDomainAt d r s).ageTimer = s.ageTimer := rfl
@[simp] theorem setDomainAt_sweepRunning : (setDomainAt d r s).sweepRunning = s.sweepRunning := rfl
@[simp] theorem setDomainAt_sweepCursor : (setDomainAt d r s).sweepCursor = s.sweepCursor := rfl
@[simp] theorem setDomainAt_lanes : (setDomainAt d r s).lanes = s.lanes := rfl
@[simp] theorem setDomainAt_slots : (setDomainAt d r s).slots = s.slots := rfl
@[simp] theorem setDomainAt_order : (setDomainAt d r s).order = s.order := rfl
@[simp] theorem setDomainAt_walk : (setDomainAt d r s).walk = s.walk := rfl
@[simp] theorem setDomainAt_submission : (setDomainAt d r s).submission = s.submission := rfl
@[simp] theorem setDomainAt_submitStatus : (setDomainAt d r s).submitStatus = s.submitStatus := rfl
@[simp] theorem setDomainAt_irqPending : (setDomainAt d r s).irqPending = s.irqPending := rfl
@[simp] theorem setDomainAt_irqEnable : (setDomainAt d r s).irqEnable = s.irqEnable := rfl
@[simp] theorem setDomainAt_highCapture : (setDomainAt d r s).highCapture = s.highCapture := rfl
@[simp] theorem setDomainAt_divider : (setDomainAt d r s).divider = s.divider := rfl
@[simp] theorem setDomainAt_tickDivider : (setDomainAt d r s).tickDivider = s.tickDivider := rfl
@[simp] theorem setDomainAt_subMs : (setDomainAt d r s).subMs = s.subMs := rfl
@[simp] theorem setDomainAt_ms : (setDomainAt d r s).ms = s.ms := rfl
end setDomainAt

section setProfileAt
variable (p : ProfileNo) (r : Profile) (s : State)
@[simp] theorem setProfileAt_pending : (setProfileAt p r s).pending = s.pending := rfl
@[simp] theorem setProfileAt_resetLow : (setProfileAt p r s).resetLow = s.resetLow := rfl
@[simp] theorem setProfileAt_readData : (setProfileAt p r s).readData = s.readData := rfl
@[simp] theorem setProfileAt_entries : (setProfileAt p r s).entries = s.entries := rfl
@[simp] theorem setProfileAt_occupancy : (setProfileAt p r s).occupancy = s.occupancy := rfl
@[simp] theorem setProfileAt_hashSelect : (setProfileAt p r s).hashSelect = s.hashSelect := rfl
@[simp] theorem setProfileAt_spillMark : (setProfileAt p r s).spillMark = s.spillMark := rfl
@[simp] theorem setProfileAt_tableStats : (setProfileAt p r s).tableStats = s.tableStats := rfl
@[simp] theorem setProfileAt_pointer : (setProfileAt p r s).pointer = s.pointer := rfl
@[simp] theorem setProfileAt_engine : (setProfileAt p r s).engine = s.engine := rfl
@[simp] theorem setProfileAt_domains : (setProfileAt p r s).domains = s.domains := rfl
@[simp] theorem setProfileAt_profiles : (setProfileAt p r s).profiles = put .reset s.profiles p.val r := rfl
@[simp] theorem setProfileAt_counterSets : (setProfileAt p r s).counterSets = s.counterSets := rfl
@[simp] theorem setProfileAt_autoReclaim : (setProfileAt p r s).autoReclaim = s.autoReclaim := rfl
@[simp] theorem setProfileAt_orphanMark : (setProfileAt p r s).orphanMark = s.orphanMark := rfl
@[simp] theorem setProfileAt_orphaned : (setProfileAt p r s).orphaned = s.orphaned := rfl
@[simp] theorem setProfileAt_agePeriod : (setProfileAt p r s).agePeriod = s.agePeriod := rfl
@[simp] theorem setProfileAt_ageTimer : (setProfileAt p r s).ageTimer = s.ageTimer := rfl
@[simp] theorem setProfileAt_sweepRunning : (setProfileAt p r s).sweepRunning = s.sweepRunning := rfl
@[simp] theorem setProfileAt_sweepCursor : (setProfileAt p r s).sweepCursor = s.sweepCursor := rfl
@[simp] theorem setProfileAt_lanes : (setProfileAt p r s).lanes = s.lanes := rfl
@[simp] theorem setProfileAt_slots : (setProfileAt p r s).slots = s.slots := rfl
@[simp] theorem setProfileAt_order : (setProfileAt p r s).order = s.order := rfl
@[simp] theorem setProfileAt_walk : (setProfileAt p r s).walk = s.walk := rfl
@[simp] theorem setProfileAt_submission : (setProfileAt p r s).submission = s.submission := rfl
@[simp] theorem setProfileAt_submitStatus : (setProfileAt p r s).submitStatus = s.submitStatus := rfl
@[simp] theorem setProfileAt_irqPending : (setProfileAt p r s).irqPending = s.irqPending := rfl
@[simp] theorem setProfileAt_irqEnable : (setProfileAt p r s).irqEnable = s.irqEnable := rfl
@[simp] theorem setProfileAt_highCapture : (setProfileAt p r s).highCapture = s.highCapture := rfl
@[simp] theorem setProfileAt_divider : (setProfileAt p r s).divider = s.divider := rfl
@[simp] theorem setProfileAt_tickDivider : (setProfileAt p r s).tickDivider = s.tickDivider := rfl
@[simp] theorem setProfileAt_subMs : (setProfileAt p r s).subMs = s.subMs := rfl
@[simp] theorem setProfileAt_ms : (setProfileAt p r s).ms = s.ms := rfl
end setProfileAt

section setCounterSetAt
variable (n : Nat) (c : CounterSet) (s : State)
@[simp] theorem setCounterSetAt_pending : (setCounterSetAt n c s).pending = s.pending := rfl
@[simp] theorem setCounterSetAt_resetLow : (setCounterSetAt n c s).resetLow = s.resetLow := rfl
@[simp] theorem setCounterSetAt_readData : (setCounterSetAt n c s).readData = s.readData := rfl
@[simp] theorem setCounterSetAt_entries : (setCounterSetAt n c s).entries = s.entries := rfl
@[simp] theorem setCounterSetAt_occupancy : (setCounterSetAt n c s).occupancy = s.occupancy := rfl
@[simp] theorem setCounterSetAt_hashSelect : (setCounterSetAt n c s).hashSelect = s.hashSelect := rfl
@[simp] theorem setCounterSetAt_spillMark : (setCounterSetAt n c s).spillMark = s.spillMark := rfl
@[simp] theorem setCounterSetAt_tableStats : (setCounterSetAt n c s).tableStats = s.tableStats := rfl
@[simp] theorem setCounterSetAt_pointer : (setCounterSetAt n c s).pointer = s.pointer := rfl
@[simp] theorem setCounterSetAt_engine : (setCounterSetAt n c s).engine = s.engine := rfl
@[simp] theorem setCounterSetAt_domains : (setCounterSetAt n c s).domains = s.domains := rfl
@[simp] theorem setCounterSetAt_profiles : (setCounterSetAt n c s).profiles = s.profiles := rfl
@[simp] theorem setCounterSetAt_counterSets : (setCounterSetAt n c s).counterSets = put .reset s.counterSets n c := rfl
@[simp] theorem setCounterSetAt_autoReclaim : (setCounterSetAt n c s).autoReclaim = s.autoReclaim := rfl
@[simp] theorem setCounterSetAt_orphanMark : (setCounterSetAt n c s).orphanMark = s.orphanMark := rfl
@[simp] theorem setCounterSetAt_orphaned : (setCounterSetAt n c s).orphaned = s.orphaned := rfl
@[simp] theorem setCounterSetAt_agePeriod : (setCounterSetAt n c s).agePeriod = s.agePeriod := rfl
@[simp] theorem setCounterSetAt_ageTimer : (setCounterSetAt n c s).ageTimer = s.ageTimer := rfl
@[simp] theorem setCounterSetAt_sweepRunning : (setCounterSetAt n c s).sweepRunning = s.sweepRunning := rfl
@[simp] theorem setCounterSetAt_sweepCursor : (setCounterSetAt n c s).sweepCursor = s.sweepCursor := rfl
@[simp] theorem setCounterSetAt_lanes : (setCounterSetAt n c s).lanes = s.lanes := rfl
@[simp] theorem setCounterSetAt_slots : (setCounterSetAt n c s).slots = s.slots := rfl
@[simp] theorem setCounterSetAt_order : (setCounterSetAt n c s).order = s.order := rfl
@[simp] theorem setCounterSetAt_walk : (setCounterSetAt n c s).walk = s.walk := rfl
@[simp] theorem setCounterSetAt_submission : (setCounterSetAt n c s).submission = s.submission := rfl
@[simp] theorem setCounterSetAt_submitStatus : (setCounterSetAt n c s).submitStatus = s.submitStatus := rfl
@[simp] theorem setCounterSetAt_irqPending : (setCounterSetAt n c s).irqPending = s.irqPending := rfl
@[simp] theorem setCounterSetAt_irqEnable : (setCounterSetAt n c s).irqEnable = s.irqEnable := rfl
@[simp] theorem setCounterSetAt_highCapture : (setCounterSetAt n c s).highCapture = s.highCapture := rfl
@[simp] theorem setCounterSetAt_divider : (setCounterSetAt n c s).divider = s.divider := rfl
@[simp] theorem setCounterSetAt_tickDivider : (setCounterSetAt n c s).tickDivider = s.tickDivider := rfl
@[simp] theorem setCounterSetAt_subMs : (setCounterSetAt n c s).subMs = s.subMs := rfl
@[simp] theorem setCounterSetAt_ms : (setCounterSetAt n c s).ms = s.ms := rfl
end setCounterSetAt

section onTableStats
variable (f : TableStats → TableStats) (s : State)
@[simp] theorem onTableStats_pending : (onTableStats f s).pending = s.pending := rfl
@[simp] theorem onTableStats_resetLow : (onTableStats f s).resetLow = s.resetLow := rfl
@[simp] theorem onTableStats_readData : (onTableStats f s).readData = s.readData := rfl
@[simp] theorem onTableStats_entries : (onTableStats f s).entries = s.entries := rfl
@[simp] theorem onTableStats_occupancy : (onTableStats f s).occupancy = s.occupancy := rfl
@[simp] theorem onTableStats_hashSelect : (onTableStats f s).hashSelect = s.hashSelect := rfl
@[simp] theorem onTableStats_spillMark : (onTableStats f s).spillMark = s.spillMark := rfl
@[simp] theorem onTableStats_tableStats : (onTableStats f s).tableStats = f s.tableStats := rfl
@[simp] theorem onTableStats_pointer : (onTableStats f s).pointer = s.pointer := rfl
@[simp] theorem onTableStats_engine : (onTableStats f s).engine = s.engine := rfl
@[simp] theorem onTableStats_domains : (onTableStats f s).domains = s.domains := rfl
@[simp] theorem onTableStats_profiles : (onTableStats f s).profiles = s.profiles := rfl
@[simp] theorem onTableStats_counterSets : (onTableStats f s).counterSets = s.counterSets := rfl
@[simp] theorem onTableStats_autoReclaim : (onTableStats f s).autoReclaim = s.autoReclaim := rfl
@[simp] theorem onTableStats_orphanMark : (onTableStats f s).orphanMark = s.orphanMark := rfl
@[simp] theorem onTableStats_orphaned : (onTableStats f s).orphaned = s.orphaned := rfl
@[simp] theorem onTableStats_agePeriod : (onTableStats f s).agePeriod = s.agePeriod := rfl
@[simp] theorem onTableStats_ageTimer : (onTableStats f s).ageTimer = s.ageTimer := rfl
@[simp] theorem onTableStats_sweepRunning : (onTableStats f s).sweepRunning = s.sweepRunning := rfl
@[simp] theorem onTableStats_sweepCursor : (onTableStats f s).sweepCursor = s.sweepCursor := rfl
@[simp] theorem onTableStats_lanes : (onTableStats f s).lanes = s.lanes := rfl
@[simp] theorem onTableStats_slots : (onTableStats f s).slots = s.slots := rfl
@[simp] theorem onTableStats_order : (onTableStats f s).order = s.order := rfl
@[simp] theorem onTableStats_walk : (onTableStats f s).walk = s.walk := rfl
@[simp] theorem onTableStats_submission : (onTableStats f s).submission = s.submission := rfl
@[simp] theorem onTableStats_submitStatus : (onTableStats f s).submitStatus = s.submitStatus := rfl
@[simp] theorem onTableStats_irqPending : (onTableStats f s).irqPending = s.irqPending := rfl
@[simp] theorem onTableStats_irqEnable : (onTableStats f s).irqEnable = s.irqEnable := rfl
@[simp] theorem onTableStats_highCapture : (onTableStats f s).highCapture = s.highCapture := rfl
@[simp] theorem onTableStats_divider : (onTableStats f s).divider = s.divider := rfl
@[simp] theorem onTableStats_tickDivider : (onTableStats f s).tickDivider = s.tickDivider := rfl
@[simp] theorem onTableStats_subMs : (onTableStats f s).subMs = s.subMs := rfl
@[simp] theorem onTableStats_ms : (onTableStats f s).ms = s.ms := rfl
end onTableStats

section setLane
variable (l : LaneNo) (x : Lane) (s : State)
@[simp] theorem setLane_pending : (setLane l x s).pending = s.pending := rfl
@[simp] theorem setLane_resetLow : (setLane l x s).resetLow = s.resetLow := rfl
@[simp] theorem setLane_readData : (setLane l x s).readData = s.readData := rfl
@[simp] theorem setLane_entries : (setLane l x s).entries = s.entries := rfl
@[simp] theorem setLane_occupancy : (setLane l x s).occupancy = s.occupancy := rfl
@[simp] theorem setLane_hashSelect : (setLane l x s).hashSelect = s.hashSelect := rfl
@[simp] theorem setLane_spillMark : (setLane l x s).spillMark = s.spillMark := rfl
@[simp] theorem setLane_tableStats : (setLane l x s).tableStats = s.tableStats := rfl
@[simp] theorem setLane_pointer : (setLane l x s).pointer = s.pointer := rfl
@[simp] theorem setLane_engine : (setLane l x s).engine = s.engine := rfl
@[simp] theorem setLane_domains : (setLane l x s).domains = s.domains := rfl
@[simp] theorem setLane_profiles : (setLane l x s).profiles = s.profiles := rfl
@[simp] theorem setLane_counterSets : (setLane l x s).counterSets = s.counterSets := rfl
@[simp] theorem setLane_autoReclaim : (setLane l x s).autoReclaim = s.autoReclaim := rfl
@[simp] theorem setLane_orphanMark : (setLane l x s).orphanMark = s.orphanMark := rfl
@[simp] theorem setLane_orphaned : (setLane l x s).orphaned = s.orphaned := rfl
@[simp] theorem setLane_agePeriod : (setLane l x s).agePeriod = s.agePeriod := rfl
@[simp] theorem setLane_ageTimer : (setLane l x s).ageTimer = s.ageTimer := rfl
@[simp] theorem setLane_sweepRunning : (setLane l x s).sweepRunning = s.sweepRunning := rfl
@[simp] theorem setLane_sweepCursor : (setLane l x s).sweepCursor = s.sweepCursor := rfl
@[simp] theorem setLane_lanes : (setLane l x s).lanes = put .reset s.lanes l.val x := rfl
@[simp] theorem setLane_slots : (setLane l x s).slots = s.slots := rfl
@[simp] theorem setLane_order : (setLane l x s).order = s.order := rfl
@[simp] theorem setLane_walk : (setLane l x s).walk = s.walk := rfl
@[simp] theorem setLane_submission : (setLane l x s).submission = s.submission := rfl
@[simp] theorem setLane_submitStatus : (setLane l x s).submitStatus = s.submitStatus := rfl
@[simp] theorem setLane_irqPending : (setLane l x s).irqPending = s.irqPending := rfl
@[simp] theorem setLane_irqEnable : (setLane l x s).irqEnable = s.irqEnable := rfl
@[simp] theorem setLane_highCapture : (setLane l x s).highCapture = s.highCapture := rfl
@[simp] theorem setLane_divider : (setLane l x s).divider = s.divider := rfl
@[simp] theorem setLane_tickDivider : (setLane l x s).tickDivider = s.tickDivider := rfl
@[simp] theorem setLane_subMs : (setLane l x s).subMs = s.subMs := rfl
@[simp] theorem setLane_ms : (setLane l x s).ms = s.ms := rfl
end setLane

section setSlot
variable (n : SlotNo) (x : Slot) (s : State)
@[simp] theorem setSlot_pending : (setSlot n x s).pending = s.pending := rfl
@[simp] theorem setSlot_resetLow : (setSlot n x s).resetLow = s.resetLow := rfl
@[simp] theorem setSlot_readData : (setSlot n x s).readData = s.readData := rfl
@[simp] theorem setSlot_entries : (setSlot n x s).entries = s.entries := rfl
@[simp] theorem setSlot_occupancy : (setSlot n x s).occupancy = s.occupancy := rfl
@[simp] theorem setSlot_hashSelect : (setSlot n x s).hashSelect = s.hashSelect := rfl
@[simp] theorem setSlot_spillMark : (setSlot n x s).spillMark = s.spillMark := rfl
@[simp] theorem setSlot_tableStats : (setSlot n x s).tableStats = s.tableStats := rfl
@[simp] theorem setSlot_pointer : (setSlot n x s).pointer = s.pointer := rfl
@[simp] theorem setSlot_engine : (setSlot n x s).engine = s.engine := rfl
@[simp] theorem setSlot_domains : (setSlot n x s).domains = s.domains := rfl
@[simp] theorem setSlot_profiles : (setSlot n x s).profiles = s.profiles := rfl
@[simp] theorem setSlot_counterSets : (setSlot n x s).counterSets = s.counterSets := rfl
@[simp] theorem setSlot_autoReclaim : (setSlot n x s).autoReclaim = s.autoReclaim := rfl
@[simp] theorem setSlot_orphanMark : (setSlot n x s).orphanMark = s.orphanMark := rfl
@[simp] theorem setSlot_orphaned : (setSlot n x s).orphaned = s.orphaned := rfl
@[simp] theorem setSlot_agePeriod : (setSlot n x s).agePeriod = s.agePeriod := rfl
@[simp] theorem setSlot_ageTimer : (setSlot n x s).ageTimer = s.ageTimer := rfl
@[simp] theorem setSlot_sweepRunning : (setSlot n x s).sweepRunning = s.sweepRunning := rfl
@[simp] theorem setSlot_sweepCursor : (setSlot n x s).sweepCursor = s.sweepCursor := rfl
@[simp] theorem setSlot_lanes : (setSlot n x s).lanes = s.lanes := rfl
@[simp] theorem setSlot_slots : (setSlot n x s).slots = put .empty s.slots n.val x := rfl
@[simp] theorem setSlot_order : (setSlot n x s).order = s.order := rfl
@[simp] theorem setSlot_walk : (setSlot n x s).walk = s.walk := rfl
@[simp] theorem setSlot_submission : (setSlot n x s).submission = s.submission := rfl
@[simp] theorem setSlot_submitStatus : (setSlot n x s).submitStatus = s.submitStatus := rfl
@[simp] theorem setSlot_irqPending : (setSlot n x s).irqPending = s.irqPending := rfl
@[simp] theorem setSlot_irqEnable : (setSlot n x s).irqEnable = s.irqEnable := rfl
@[simp] theorem setSlot_highCapture : (setSlot n x s).highCapture = s.highCapture := rfl
@[simp] theorem setSlot_divider : (setSlot n x s).divider = s.divider := rfl
@[simp] theorem setSlot_tickDivider : (setSlot n x s).tickDivider = s.tickDivider := rfl
@[simp] theorem setSlot_subMs : (setSlot n x s).subMs = s.subMs := rfl
@[simp] theorem setSlot_ms : (setSlot n x s).ms = s.ms := rfl
end setSlot

section raiseCause
variable (c : Cause) (s : State)
@[simp] theorem raiseCause_pending : (raiseCause c s).pending = s.pending := rfl
@[simp] theorem raiseCause_resetLow : (raiseCause c s).resetLow = s.resetLow := rfl
@[simp] theorem raiseCause_readData : (raiseCause c s).readData = s.readData := rfl
@[simp] theorem raiseCause_entries : (raiseCause c s).entries = s.entries := rfl
@[simp] theorem raiseCause_occupancy : (raiseCause c s).occupancy = s.occupancy := rfl
@[simp] theorem raiseCause_hashSelect : (raiseCause c s).hashSelect = s.hashSelect := rfl
@[simp] theorem raiseCause_spillMark : (raiseCause c s).spillMark = s.spillMark := rfl
@[simp] theorem raiseCause_tableStats : (raiseCause c s).tableStats = s.tableStats := rfl
@[simp] theorem raiseCause_pointer : (raiseCause c s).pointer = s.pointer := rfl
@[simp] theorem raiseCause_engine : (raiseCause c s).engine = s.engine := rfl
@[simp] theorem raiseCause_domains : (raiseCause c s).domains = s.domains := rfl
@[simp] theorem raiseCause_profiles : (raiseCause c s).profiles = s.profiles := rfl
@[simp] theorem raiseCause_counterSets : (raiseCause c s).counterSets = s.counterSets := rfl
@[simp] theorem raiseCause_autoReclaim : (raiseCause c s).autoReclaim = s.autoReclaim := rfl
@[simp] theorem raiseCause_orphanMark : (raiseCause c s).orphanMark = s.orphanMark := rfl
@[simp] theorem raiseCause_orphaned : (raiseCause c s).orphaned = s.orphaned := rfl
@[simp] theorem raiseCause_agePeriod : (raiseCause c s).agePeriod = s.agePeriod := rfl
@[simp] theorem raiseCause_ageTimer : (raiseCause c s).ageTimer = s.ageTimer := rfl
@[simp] theorem raiseCause_sweepRunning : (raiseCause c s).sweepRunning = s.sweepRunning := rfl
@[simp] theorem raiseCause_sweepCursor : (raiseCause c s).sweepCursor = s.sweepCursor := rfl
@[simp] theorem raiseCause_lanes : (raiseCause c s).lanes = s.lanes := rfl
@[simp] theorem raiseCause_slots : (raiseCause c s).slots = s.slots := rfl
@[simp] theorem raiseCause_order : (raiseCause c s).order = s.order := rfl
@[simp] theorem raiseCause_walk : (raiseCause c s).walk = s.walk := rfl
@[simp] theorem raiseCause_submission : (raiseCause c s).submission = s.submission := rfl
@[simp] theorem raiseCause_submitStatus : (raiseCause c s).submitStatus = s.submitStatus := rfl
@[simp] theorem raiseCause_irqPending : (raiseCause c s).irqPending = s.irqPending ||| causeWord c := rfl
@[simp] theorem raiseCause_irqEnable : (raiseCause c s).irqEnable = s.irqEnable := rfl
@[simp] theorem raiseCause_highCapture : (raiseCause c s).highCapture = s.highCapture := rfl
@[simp] theorem raiseCause_divider : (raiseCause c s).divider = s.divider := rfl
@[simp] theorem raiseCause_tickDivider : (raiseCause c s).tickDivider = s.tickDivider := rfl
@[simp] theorem raiseCause_subMs : (raiseCause c s).subMs = s.subMs := rfl
@[simp] theorem raiseCause_ms : (raiseCause c s).ms = s.ms := rfl
end raiseCause

section grantTo
variable (k : Fin 10) (e : Engine) (s : State)
@[simp] theorem grantTo_pending : (grantTo k e s).pending = s.pending := rfl
@[simp] theorem grantTo_resetLow : (grantTo k e s).resetLow = s.resetLow := rfl
@[simp] theorem grantTo_readData : (grantTo k e s).readData = s.readData := rfl
@[simp] theorem grantTo_entries : (grantTo k e s).entries = s.entries := rfl
@[simp] theorem grantTo_occupancy : (grantTo k e s).occupancy = s.occupancy := rfl
@[simp] theorem grantTo_hashSelect : (grantTo k e s).hashSelect = s.hashSelect := rfl
@[simp] theorem grantTo_spillMark : (grantTo k e s).spillMark = s.spillMark := rfl
@[simp] theorem grantTo_tableStats : (grantTo k e s).tableStats = s.tableStats := rfl
@[simp] theorem grantTo_pointer : (grantTo k e s).pointer = k + 1 := rfl
@[simp] theorem grantTo_engine : (grantTo k e s).engine = e := rfl
@[simp] theorem grantTo_domains : (grantTo k e s).domains = s.domains := rfl
@[simp] theorem grantTo_profiles : (grantTo k e s).profiles = s.profiles := rfl
@[simp] theorem grantTo_counterSets : (grantTo k e s).counterSets = s.counterSets := rfl
@[simp] theorem grantTo_autoReclaim : (grantTo k e s).autoReclaim = s.autoReclaim := rfl
@[simp] theorem grantTo_orphanMark : (grantTo k e s).orphanMark = s.orphanMark := rfl
@[simp] theorem grantTo_orphaned : (grantTo k e s).orphaned = s.orphaned := rfl
@[simp] theorem grantTo_agePeriod : (grantTo k e s).agePeriod = s.agePeriod := rfl
@[simp] theorem grantTo_ageTimer : (grantTo k e s).ageTimer = s.ageTimer := rfl
@[simp] theorem grantTo_sweepRunning : (grantTo k e s).sweepRunning = s.sweepRunning := rfl
@[simp] theorem grantTo_sweepCursor : (grantTo k e s).sweepCursor = s.sweepCursor := rfl
@[simp] theorem grantTo_lanes : (grantTo k e s).lanes = s.lanes := rfl
@[simp] theorem grantTo_slots : (grantTo k e s).slots = s.slots := rfl
@[simp] theorem grantTo_order : (grantTo k e s).order = s.order := rfl
@[simp] theorem grantTo_walk : (grantTo k e s).walk = s.walk := rfl
@[simp] theorem grantTo_submission : (grantTo k e s).submission = s.submission := rfl
@[simp] theorem grantTo_submitStatus : (grantTo k e s).submitStatus = s.submitStatus := rfl
@[simp] theorem grantTo_irqPending : (grantTo k e s).irqPending = s.irqPending := rfl
@[simp] theorem grantTo_irqEnable : (grantTo k e s).irqEnable = s.irqEnable := rfl
@[simp] theorem grantTo_highCapture : (grantTo k e s).highCapture = s.highCapture := rfl
@[simp] theorem grantTo_divider : (grantTo k e s).divider = s.divider := rfl
@[simp] theorem grantTo_tickDivider : (grantTo k e s).tickDivider = s.tickDivider := rfl
@[simp] theorem grantTo_subMs : (grantTo k e s).subMs = s.subMs := rfl
@[simp] theorem grantTo_ms : (grantTo k e s).ms = s.ms := rfl
end grantTo

/-! ### The named reads after the named writes -/

/-- A read of an entry after a write of one. -/
theorem entryAt_setEntry (ref k : Nat) (e : Entry) (s : State) :
    entryAt (setEntry ref e s) k = if k = ref then e else entryAt s k := fetch_put _ _ _ _ _
@[simp] theorem entryAt_setEntry_same (ref : Nat) (e : Entry) (s : State) :
    entryAt (setEntry ref e s) ref = e := fetch_put_same _ _ _ _
theorem entryAt_setEntry_other {ref k : Nat} (e : Entry) (s : State) (h : k ≠ ref) :
    entryAt (setEntry ref e s) k = entryAt s k := fetch_put_other _ _ _ h
/-- A read of an entry after a write of an occupant: the generation is kept. -/
theorem entryAt_setOccupant (ref k : Nat) (o : Occupant) (s : State) :
    entryAt (setOccupant ref o s) k =
      if k = ref then ⟨(entryAt s ref).generation, some o⟩ else entryAt s k := fetch_put _ _ _ _ _
/-- A read of a domain record after a write of one. -/
theorem domainAt_setDomainAt (d k : Byte) (r : Domain) (s : State) :
    domainAt (setDomainAt d r s) k = if k = d then r else domainAt s k := by
  simp only [domainAt, setDomainAt, fetch_put, BitVec.toNat_inj]
/-- A read of a profile after a write of one. -/
theorem profileAt_setProfileAt (p k : ProfileNo) (r : Profile) (s : State) :
    profileAt (setProfileAt p r s) k = if k = p then r else profileAt s k := by
  simp only [profileAt, setProfileAt, fetch_put, Fin.val_inj]
/-- A read of a counter set after a write of one. -/
theorem counterSetAt_setCounterSetAt (n k : Nat) (c : CounterSet) (s : State) :
    counterSetAt (setCounterSetAt n c s) k = if k = n then c else counterSetAt s k :=
  fetch_put _ _ _ _ _
/-- A read of a lane after a write of one. -/
theorem laneAt_setLane (l k : LaneNo) (x : Lane) (s : State) :
    laneAt (setLane l x s) k = if k = l then x else laneAt s k := by
  simp only [laneAt, setLane, fetch_put, Fin.val_inj]
@[simp] theorem laneAt_setLane_same (l : LaneNo) (x : Lane) (s : State) :
    laneAt (setLane l x s) l = x := fetch_put_same _ _ _ _
/-- A read of a lane after a change of one. -/
theorem laneAt_onLane (l k : LaneNo) (f : Lane → Lane) (s : State) :
    laneAt (onLane l f s) k = if k = l then f (laneAt s l) else laneAt s k := laneAt_setLane _ _ _ _
/-- A read of a slot after a write of one. -/
theorem slotAt_setSlot (n k : SlotNo) (x : Slot) (s : State) :
    slotAt (setSlot n x s) k = if k = n then x else slotAt s k := by
  simp only [slotAt, setSlot, fetch_put, Fin.val_inj]
@[simp] theorem slotAt_setSlot_same (n : SlotNo) (x : Slot) (s : State) :
    slotAt (setSlot n x s) n = x := fetch_put_same _ _ _ _
/-- A read of a tag after a write of one. -/
theorem tagOf_setTag (t k : TagNo) (v : Tag) (x : Lane) :
    tagOf (setTag t v x) k = if k = t then v else tagOf x k := by
  simp only [tagOf, setTag, fetch_put, Fin.val_inj]
/-- A read of a window word after a write of one. -/
theorem wordAt_setWord (n k : Nat) (v : Word16) (b : Block) :
    wordAt (setWord n v b) k = if k = n then v else wordAt b k := fetch_put _ _ _ _ _

/-! ### The reads look at their own store alone -/

@[simp] theorem entryAt_setDomainAt (d : Byte) (r : Domain) (s : State) (k : Nat) : entryAt (setDomainAt d r s) k = entryAt s k := rfl
@[simp] theorem entryAt_setProfileAt (p : ProfileNo) (r : Profile) (s : State) (k : Nat) : entryAt (setProfileAt p r s) k = entryAt s k := rfl
@[simp] theorem entryAt_setCounterSetAt (n : Nat) (c : CounterSet) (s : State) (k : Nat) : entryAt (setCounterSetAt n c s) k = entryAt s k := rfl
@[simp] theorem entryAt_onTableStats (f : TableStats → TableStats) (s : State) (k : Nat) : entryAt (onTableStats f s) k = entryAt s k := rfl
@[simp] theorem entryAt_setLane (l : LaneNo) (x : Lane) (s : State) (k : Nat) : entryAt (setLane l x s) k = entryAt s k := rfl
@[simp] theorem entryAt_setSlot (n : SlotNo) (x : Slot) (s : State) (k : Nat) : entryAt (setSlot n x s) k = entryAt s k := rfl
@[simp] theorem entryAt_raiseCause (c : Cause) (s : State) (k : Nat) : entryAt (raiseCause c s) k = entryAt s k := rfl
@[simp] theorem entryAt_grantTo (j : Fin 10) (e : Engine) (s : State) (k : Nat) : entryAt (grantTo j e s) k = entryAt s k := rfl
@[simp] theorem domainAt_setEntry (ref : Nat) (e : Entry) (s : State) (k : Byte) : domainAt (setEntry ref e s) k = domainAt s k := rfl
@[simp] theorem domainAt_setProfileAt (p : ProfileNo) (r : Profile) (s : State) (k : Byte) : domainAt (setProfileAt p r s) k = domainAt s k := rfl
@[simp] theorem domainAt_setCounterSetAt (n : Nat) (c : CounterSet) (s : State) (k : Byte) : domainAt (setCounterSetAt n c s) k = domainAt s k := rfl
@[simp] theorem domainAt_onTableStats (f : TableStats → TableStats) (s : State) (k : Byte) : domainAt (onTableStats f s) k = domainAt s k := rfl
@[simp] theorem domainAt_setLane (l : LaneNo) (x : Lane) (s : State) (k : Byte) : domainAt (setLane l x s) k = domainAt s k := rfl
@[simp] theorem domainAt_setSlot (n : SlotNo) (x : Slot) (s : State) (k : Byte) : domainAt (setSlot n x s) k = domainAt s k := rfl
@[simp] theorem domainAt_raiseCause (c : Cause) (s : State) (k : Byte) : domainAt (raiseCause c s) k = domainAt s k := rfl
@[simp] theorem domainAt_grantTo (j : Fin 10) (e : Engine) (s : State) (k : Byte) : domainAt (grantTo j e s) k = domainAt s k := rfl
@[simp] theorem profileAt_setEntry (ref : Nat) (e : Entry) (s : State) (k : ProfileNo) : profileAt (setEntry ref e s) k = profileAt s k := rfl
@[simp] theorem profileAt_setDomainAt (d : Byte) (r : Domain) (s : State) (k : ProfileNo) : profileAt (setDomainAt d r s) k = profileAt s k := rfl
@[simp] theorem profileAt_setCounterSetAt (n : Nat) (c : CounterSet) (s : State) (k : ProfileNo) : profileAt (setCounterSetAt n c s) k = profileAt s k := rfl
@[simp] theorem profileAt_onTableStats (f : TableStats → TableStats) (s : State) (k : ProfileNo) : profileAt (onTableStats f s) k = profileAt s k := rfl
@[simp] theorem profileAt_setLane (l : LaneNo) (x : Lane) (s : State) (k : ProfileNo) : profileAt (setLane l x s) k = profileAt s k := rfl
@[simp] theorem profileAt_setSlot (n : SlotNo) (x : Slot) (s : State) (k : ProfileNo) : profileAt (setSlot n x s) k = profileAt s k := rfl
@[simp] theorem profileAt_raiseCause (c : Cause) (s : State) (k : ProfileNo) : profileAt (raiseCause c s) k = profileAt s k := rfl
@[simp] theorem profileAt_grantTo (j : Fin 10) (e : Engine) (s : State) (k : ProfileNo) : profileAt (grantTo j e s) k = profileAt s k := rfl
@[simp] theorem counterSetAt_setEntry (ref : Nat) (e : Entry) (s : State) (k : Nat) : counterSetAt (setEntry ref e s) k = counterSetAt s k := rfl
@[simp] theorem counterSetAt_setDomainAt (d : Byte) (r : Domain) (s : State) (k : Nat) : counterSetAt (setDomainAt d r s) k = counterSetAt s k := rfl
@[simp] theorem counterSetAt_setProfileAt (p : ProfileNo) (r : Profile) (s : State) (k : Nat) : counterSetAt (setProfileAt p r s) k = counterSetAt s k := rfl
@[simp] theorem counterSetAt_onTableStats (f : TableStats → TableStats) (s : State) (k : Nat) : counterSetAt (onTableStats f s) k = counterSetAt s k := rfl
@[simp] theorem counterSetAt_setLane (l : LaneNo) (x : Lane) (s : State) (k : Nat) : counterSetAt (setLane l x s) k = counterSetAt s k := rfl
@[simp] theorem counterSetAt_setSlot (n : SlotNo) (x : Slot) (s : State) (k : Nat) : counterSetAt (setSlot n x s) k = counterSetAt s k := rfl
@[simp] theorem counterSetAt_raiseCause (c : Cause) (s : State) (k : Nat) : counterSetAt (raiseCause c s) k = counterSetAt s k := rfl
@[simp] theorem counterSetAt_grantTo (j : Fin 10) (e : Engine) (s : State) (k : Nat) : counterSetAt (grantTo j e s) k = counterSetAt s k := rfl
@[simp] theorem laneAt_setEntry (ref : Nat) (e : Entry) (s : State) (k : LaneNo) : laneAt (setEntry ref e s) k = laneAt s k := rfl
@[simp] theorem laneAt_setDomainAt (d : Byte) (r : Domain) (s : State) (k : LaneNo) : laneAt (setDomainAt d r s) k = laneAt s k := rfl
@[simp] theorem laneAt_setProfileAt (p : ProfileNo) (r : Profile) (s : State) (k : LaneNo) : laneAt (setProfileAt p r s) k = laneAt s k := rfl
@[simp] theorem laneAt_setCounterSetAt (n : Nat) (c : CounterSet) (s : State) (k : LaneNo) : laneAt (setCounterSetAt n c s) k = laneAt s k := rfl
@[simp] theorem laneAt_onTableStats (f : TableStats → TableStats) (s : State) (k : LaneNo) : laneAt (onTableStats f s) k = laneAt s k := rfl
@[simp] theorem laneAt_setSlot (n : SlotNo) (x : Slot) (s : State) (k : LaneNo) : laneAt (setSlot n x s) k = laneAt s k := rfl
@[simp] theorem laneAt_raiseCause (c : Cause) (s : State) (k : LaneNo) : laneAt (raiseCause c s) k = laneAt s k := rfl
@[simp] theorem laneAt_grantTo (j : Fin 10) (e : Engine) (s : State) (k : LaneNo) : laneAt (grantTo j e s) k = laneAt s k := rfl
@[simp] theorem slotAt_setEntry (ref : Nat) (e : Entry) (s : State) (k : SlotNo) : slotAt (setEntry ref e s) k = slotAt s k := rfl
@[simp] theorem slotAt_setDomainAt (d : Byte) (r : Domain) (s : State) (k : SlotNo) : slotAt (setDomainAt d r s) k = slotAt s k := rfl
@[simp] theorem slotAt_setProfileAt (p : ProfileNo) (r : Profile) (s : State) (k : SlotNo) : slotAt (setProfileAt p r s) k = slotAt s k := rfl
@[simp] theorem slotAt_setCounterSetAt (n : Nat) (c : CounterSet) (s : State) (k : SlotNo) : slotAt (setCounterSetAt n c s) k = slotAt s k := rfl
@[simp] theorem slotAt_onTableStats (f : TableStats → TableStats) (s : State) (k : SlotNo) : slotAt (onTableStats f s) k = slotAt s k := rfl
@[simp] theorem slotAt_setLane (l : LaneNo) (x : Lane) (s : State) (k : SlotNo) : slotAt (setLane l x s) k = slotAt s k := rfl
@[simp] theorem slotAt_raiseCause (c : Cause) (s : State) (k : SlotNo) : slotAt (raiseCause c s) k = slotAt s k := rfl
@[simp] theorem slotAt_grantTo (j : Fin 10) (e : Engine) (s : State) (k : SlotNo) : slotAt (grantTo j e s) k = slotAt s k := rfl

end Sys2Proof.Machine
end

