-- ==== Sys2Proof/Laws/Commands.lean ====
section
/-!
SUPPORT. What the Command Unit's shared operations can do: a completion, a command taken directly, and a
table command at the end of its operation.
-/

namespace Sys2Proof.Machine

/-- While RESET# is high a command makes its change (R181). -/
theorem act_awake {s : State} (f : State → State) (h : awake s) : act f s = .next (f s) := by
  unfold act
  rw [if_neg (by rw [h]; decide)]

/-- While RESET# is low a command changes nothing (R181). -/
theorem act_held {s : State} (f : State → State) (h : s.resetLow = true) : act f s = .next s := by
  unfold act
  rw [if_pos h]

/-- A completion, field by field (R143, R147). -/
theorem complete_eq (n : SlotNo) (b : Block) (st : Status) (values : List Word16) (s : State) :
    complete n b st values s = finished n b st values s := by
  have one : BitVec.twoPow 16 0 = 1#16 := by decide
  simp [complete, finished, makeDone, raiseCause, causeWord, causeBit, setSlot, one]

/-- A command handed to the block that takes it completes with what its work gives. -/
theorem directCommand_eq {c : Byte} {n : SlotNo} {b : Block} {s : State}
    (work : Block → State → Performed) (h : CommandRunning c n b s) :
    directCommand c work s =
      .next (finished n b (work b s).2.1 (work b s).2.2 (work b s).1) := by
  unfold directCommand
  rw [act_awake _ h.awake]
  unfold performRunning
  rw [h.running]
  simp only [complete_eq]

/-- What an operation does at its parts while RESET# is high: `whole` is `grant` and then `finish`, and where
the engine's next grant is not its own neither `whole` nor `grant` changes anything. -/
theorem operationParts_awake (offered : State → Bool) (grant finish : State → State) {s : State}
    (h : awake s) :
    (offered s = true →
      operationParts offered grant finish .whole s = .next (finish (grant s)) ∧
      operationParts offered grant finish .grant s = .next (grant s)) ∧
    (offered s = false →
      operationParts offered grant finish .whole s = .next s ∧
      operationParts offered grant finish .grant s = .next s) ∧
    operationParts offered grant finish .finish s = .next (finish s) := by
  refine ⟨fun ho => ?_, fun ho => ?_, act_awake _ h⟩
  · simp [operationParts, act_awake _ h, ho]
  · simp [operationParts, act_awake _ h, ho]

/-- A READ_TABLE_STATS in progress completes with the statistics it read at its grant (R19). -/
theorem execReadTableStats_finish {n : SlotNo} {b : Block} {k : TableStats} {s : State}
    (h : CommandRunning 0x0B n b s) (he : s.engine = .readingStats k) :
    execReadTableStats .finish s = .next (ended n b .ok (tableStatsWords k) s) := by
  unfold execReadTableStats
  rw [(operationParts_awake _ _ _ h.awake).2.2]
  unfold finishTableStats
  rw [he, h.running]
  simp only [complete_eq]
  rfl

/-- A table operation of the RUNNING command ends with what its work makes of the state, the engine idle. -/
theorem commandOperation_finish {c : Byte} {n : SlotNo} {b : Block} {s : State}
    (work : State → State) (h : CommandGranted c n b s) :
    commandOperation c work .finish s = .next (work { s with engine := .idle }) := by
  unfold commandOperation operationParts
  simp only
  rw [act_awake _ h.awake]
  unfold finishCommand
  rw [if_pos ⟨h.granted, by rw [h.running]; rfl⟩]

/-- A table command of one grant completes with what its work gives, the engine idle. -/
theorem tableCommand_finish {c : Byte} {n : SlotNo} {b : Block} {s : State}
    (work : Block → State → Performed) (h : CommandGranted c n b s) :
    let r := work b { s with engine := .idle }
    tableCommand c work .finish s = .next (finished n b r.2.1 r.2.2 r.1) := by
  have hr : runningCode c { s with engine := .idle } = some (n, b) := h.running
  unfold tableCommand
  rw [commandOperation_finish _ h]
  unfold performRunning
  rw [hr]
  simp only [complete_eq]

end Sys2Proof.Machine
end

