-- ==== Sys2Proof/Laws/Formats.lean ====
section
/-!
SUPPORT. Bytes and nibbles: a run of bytes carried as nibbles is paired back into the same bytes (R183),
an address is the one its bytes make, and what the receive side takes the symbols of a frame for (Table 11-1).
-/

namespace Sys2Proof.Machine

/-- A byte is its two nibbles, the high one first. -/
theorem byte_of_nibbles : ∀ b : Byte, (b >>> 4).setWidth 4 ++ b.setWidth 4 = b := by
  decide +kernel

/-- Nibbles of bytes pair back into the bytes. -/
theorem bytesOfNibbles_nibblesOf (l : List Byte) : bytesOfNibbles (nibblesOf l) = l := by
  induction l with
  | nil => rfl
  | cons b rest ih => simp only [nibblesOf, bytesOfNibbles, ih, byte_of_nibbles]

/-- A byte is carried as two nibbles. -/
theorem length_nibblesOf (l : List Byte) : (nibblesOf l).length = 2 * l.length := by
  induction l with
  | nil => rfl
  | cons b rest ih => simp only [nibblesOf, List.length_cons, ih]; omega

/-- The receive side takes a nibble on the link for that nibble (Table 11-1). -/
@[simp] theorem linkReads_linkNibble (v : Nibble) : linkReads (linkNibble v) = some (.nibble v) := rfl

/-- The receive side takes a frame mark for no symbol of a message (Table 11-1). -/
@[simp] theorem linkReads_frameMark : linkReads frameMark = none := rfl

/-- The receive side takes the idle symbol for an idle (Table 11-1). -/
@[simp] theorem linkReads_linkIdle : linkReads linkIdle = some .idle := rfl

end Sys2Proof.Machine
end

