-- ==== Sys2Proof/Laws/Lanes.lean ====
section
/-!
SUPPORT. What the shared operations of a lane can do: a message judged, a lane fault, and how the writes
of one lane within one command come to one write.
-/

namespace Sys2Proof.Machine

/-- A lane with a message open differs from the reset lane. -/
theorem open_ne_reset {x : Lane} (h : x.receiveOpen = true) : x ≠ Lane.reset := by
  rintro rfl
  simp [Lane.reset] at h

/-- A second write of a lane stands alone, when the first left a message open. -/
theorem setLane_setLane {l : LaneNo} {x : Lane} (y : Lane) (s : State) (h : x.receiveOpen = true) :
    setLane l y (setLane l x s) = { s with lanes := put .reset s.lanes l.val y } := by
  simp only [setLane, put_put _ _ _ (open_ne_reset h)]

/-- A message with its opening mark, on a lane that is not DOWN, is judged with its lane's receive side open
(R121, R182). -/
theorem act_receive {l : LaneNo} {opening : Opening} {r : Received} {s : State}
    (h : Heard l opening s) (up : (laneAt s l).state ≠ .down) :
    act (receive l opening r) s =
      .next (judge l r (setLane l { laneAt s l with receiveOpen := true } s)) := by
  have ha := h.awake
  rcases h.opened with rfl | ho <;> simp_all [act, receive]

/-- The close-out, field by field. -/
theorem closeOut_eq (x : Lane) : closeOut x = closedOut x := rfl

/-- A lane fault on a lane whose receive side has just been opened, field by field (R123). -/
theorem laneFault_opened (l : LaneNo) (r : FaultReason) (s : State) :
    laneFault l r (setLane l { laneAt s l with receiveOpen := true } s) = faulted l r s := by
  unfold laneFault onLane
  rw [laneAt_setLane_same, setLane_setLane _ _ rfl]
  rfl

end Sys2Proof.Machine
end

