-- ==== Sys2Proof/Laws/Table.lean ====
section
/-!
SUPPORT. What the Table Engine's shared operations can do: search, allocation, retirement, the taking of
a counter set and a charge, each said once.
-/

namespace Sys2Proof.Machine

/-- A search that finds a ref found an occupied entry holding the key, among the key's places. -/
theorem searchKey_some {s : State} {k : Key} {ref : Nat} (h : searchKey s k = some ref) :
    ref ∈ placesOf s k ∧ ∃ o, (entryAt s ref).occupant = some o ∧ o.key = k := by
  have hm := List.mem_of_find?_eq_some h
  have hp := List.find?_some h
  refine ⟨hm, ?_⟩
  unfold holds at hp
  cases ho : (entryAt s ref).occupant with
  | none => simp [ho] at hp
  | some o => exact ⟨o, rfl, by simpa [ho] using hp⟩

/-- A search that finds nothing passed no entry holding the key in the key's places. -/
theorem searchKey_none {s : State} {k : Key} (h : searchKey s k = none) {ref : Nat}
    (hm : ref ∈ placesOf s k) {o : Occupant} (ho : (entryAt s ref).occupant = some o) : o.key ≠ k := by
  have hp := List.find?_eq_none.1 h ref hm
  simpa [holds, ho] using hp

/-- An allocation's place is FREE and among the key's places. -/
theorem freePlace_some {s : State} {k : Key} {ref : Nat} (h : freePlace s k = some ref) :
    ref ∈ placesOf s k ∧ (entryAt s ref).occupant = none :=
  ⟨List.mem_of_find?_eq_some h, by simpa using List.find?_some h⟩

/-- What an allocation does to the entries: the place takes the occupant under the next generation. -/
theorem entryAt_allocate (ref k : Nat) (o : Occupant) (s : State) :
    entryAt (allocate ref o s) k =
      if k = ref then ⟨(entryAt s ref).generation + 1, some o⟩ else entryAt s k :=
  entryAt_setEntry ref k _ s

/-- The handing of a set leaves every entry as it is. -/
@[simp] theorem entryAt_handOver (n : Nat) (key : Key) (s : State) (k : Nat) :
    entryAt (handOver n key s) k = entryAt s k := by
  unfold handOver
  split
  · rfl
  · unfold countOrphan
    dsimp only
    split <;> rfl

/-- The handing of an occupant's set leaves every entry as it is. -/
@[simp] theorem entryAt_handOverSetOf (o : Occupant) (s : State) (k : Nat) :
    entryAt (handOverSetOf o s) k = entryAt s k := by
  unfold handOverSetOf
  split
  · rfl
  · exact entryAt_handOver _ _ _ _

/-- What a retirement does to the entries: an occupied one becomes FREE under its kept generation (R13). -/
theorem entryAt_retire {ref : Nat} {o : Occupant} {s : State} (c : RetireCause)
    (h : (entryAt s ref).occupant = some o) (k : Nat) :
    entryAt (retire ref c s) k =
      if k = ref then ⟨(entryAt s ref).generation, none⟩ else entryAt s k := by
  unfold retire
  rw [h]
  simp only [entryAt_onTableStats, entryAt_handOverSetOf]
  exact entryAt_setEntry ref k _ s

/-- A retirement of a FREE entry changes nothing. -/
theorem retire_free {ref : Nat} {s : State} (c : RetireCause)
    (h : (entryAt s ref).occupant = none) : retire ref c s = s := by
  unfold retire
  rw [h]

/-- What a charge can do: nothing, or add its amounts to the set that is ATTACHED to the charge's owner
(R108). -/
theorem counterSetAt_chargeSet (n k : Nat) (owner : Pair) (c : Charge) (s : State) :
    counterSetAt (chargeSet n owner c s) k =
      if k = n ∧ (counterSetAt s n).state = .attached owner then
        ⟨.attached owner, charged c (counterSetAt s n).counts⟩
      else counterSetAt s k := by
  unfold chargeSet
  by_cases h : (counterSetAt s n).state = .attached owner
  · simp only [h, if_true, and_true, counterSetAt_setCounterSetAt]
  · simp [h]

/-- A charge changes no entry. -/
@[simp] theorem entryAt_chargeEntry (ref : Nat) (c : Charge) (s : State) (k : Nat) :
    entryAt (chargeEntry ref c s) k = entryAt s k := by
  unfold chargeEntry
  split
  · rfl
  · unfold chargeSet
    split <;> rfl

/-- A set given to a request is FREE (R103). -/
theorem answerRequest_some {q : SetRequest} {s : State} {n : Nat}
    (h : answerRequest q s = some n) : (counterSetAt s n).state = .free := by
  cases q with
  | any => simpa [answerRequest, lowestFreeSet] using List.find?_some h
  | named m =>
    simp only [answerRequest] at h
    split at h
    · rename_i hf
      injection h with h
      exact h ▸ hf
    · cases h

/-- The arbiter's choice is requesting (R22). -/
theorem arbiterChoice_requests {s : State} {k : Fin 10} (h : arbiterChoice s = some k) :
    requesting s k = true := List.find?_some h

/-- A grant is made only while the engine is idle (R23). -/
theorem nextGrant_idle {s : State} {k : Fin 10} (h : nextGrant s = some k) : s.engine = .idle := by
  unfold nextGrant at h
  split at h
  · assumption
  · cases h

end Sys2Proof.Machine
end

