-- ==== Sys2Proof/Tests/Slice0.lean ====
section
/-!
SUPPORT. Tests: the well-formedness smoke tests; small one-step tests whose expected results are the
manual's tables; and, for each statement of Certificates/Slice0/Obligations.lean that has hypotheses, a
concrete state and operands that meet them, clause by clause.
-/

namespace Sys2Proof.Tests

open Sys2Proof.Machine

-- One test at a time: the kernel evaluations then need no thread of their own.
set_option Elab.async false

/-! ### Well-formedness -/

/-- A REGISTER_WRITE to a word with a row of its own is ill formed; to a readout it is well formed. -/
theorem test_registerWrite_wellFormed :
    (Instr.registerWrite 0x10 0).wellFormed = false ∧
    (Instr.registerWrite 0x7F 0x5A17).wellFormed = false ∧
    (Instr.registerWrite 0x0F 0).wellFormed = true ∧
    (Instr.registerWrite 0x13 0).wellFormed = true := by decide

/-- A MALFORMED_MESSAGE of a good message, or of no nibble, is ill formed; one byte is malformed. -/
theorem test_malformedMessage_wellFormed :
    (Instr.malformedMessage 0 .own (portMessageBody .restart)).wellFormed = false ∧
    (Instr.malformedMessage 0 .own [.idle, .codingError]).wellFormed = false ∧
    (Instr.malformedMessage 0 .own [.nibble 0xE, .nibble 0x1]).wellFormed = true := by
  decide +kernel

/-! ### Small states -/

/-- A lane in READY with a message open. -/
def readyLane : Lane := { Lane.reset with state := .ready, receiveOpen := true }
/-- Lane `l` of the reset part is `x`. -/
def withLane (l : LaneNo) (x : Lane) : State := setLane l x .reset
/-- The reset part with the command of block `b` RUNNING in slot 3. -/
def running (b : Block) : State := setSlot 3 (.running b) .reset
/-- The same with a table operation of it in progress. -/
def granted (b : Block) : State := { running b with engine := .command }
/-- A unicast station of domain 2. -/
def stationA : Key := ⟨2, 0x020000000001⟩
/-- An occupant for it, homed at L1. -/
def occupantA (life : Life) : Occupant := ⟨stationA, .unicast 1, .allow, .allow, life, none, none⟩
/-- The state with `o` in the last spill slot, under generation 255. -/
def holding (o : Occupant) (s : State) : State := setEntry 8255 ⟨255, some o⟩ s
/-- An ENABLED domain of L0 to L2 that moves freeze at the first. -/
def openDomain : Domain := { Domain.reset with enabled := true, members := 7, moveLimit := 1 }
/-- A lookup on L0 from the station to `dst`. -/
def lookupTo (dst : Address) (copy : Domain) : ResolveInput := ⟨0, 15, 2, dst, stationA.address, copy⟩
/-- The state with a resolve in progress. -/
def resolving (i : ResolveInput) (s : State) : State := { s with engine := .resolving i }
/-- A BAD or GOOD settle of a tag whose source is the station's entry. -/
def settleOf (good created : Bool) : SettleInput :=
  ⟨7, 15, ⟨some ⟨8255, 255⟩, created, none, 0⟩, good, 65535⟩

/-! ### Witnesses: the queue, reset, lane messages -/

theorem witness_StepTakesFrontCommand :
    (State.reset.withPending [.ageTick]).pending = .ageTick :: [] ∧ State.reset.pending = [] := by
  decide

theorem witness_DeviceResetAndPin :
    awake .reset ∧ (0x5A16 : Word16) ≠ 0x5A17 ∧
    ({ State.reset with resetLow := true } : State).resetLow = true ∧
    Instr.ageTick ≠ .resetPin ∧ Instr.ageTick ≠ .resetPinRelease := by decide

theorem witness_LookupJudged :
    Heard 7 .own (withLane 7 readyLane) ∧ Heard 7 .shared (withLane 7 readyLane) ∧
    (laneAt (withLane 7 readyLane) 7).state = .ready ∧
    tagOf (laneAt (withLane 7 (setTag 15 (.free true) readyLane)) 7)
      ((0xFF : Byte).setWidth 4).toFin = .free true ∧
    tagOf (laneAt (withLane 7 (setTag 15 .queued readyLane)) 7)
      ((0xFF : Byte).setWidth 4).toFin = .queued :=
  ⟨⟨rfl, .inl rfl⟩, ⟨rfl, .inr rfl⟩, by decide +kernel⟩

theorem witness_LaneFaultTaken :
    Heard 7 .own (withLane 7 readyLane) ∧ Heard 0 .own (withLane 0 { readyLane with state := .waiting }) ∧
    (laneAt (withLane 0 { readyLane with state := .waiting }) 0).state = .waiting ∧
    readBody [.nibble 0xE, .nibble 0x1] = .malformed .length ∧
    (∀ memo, tagOf (laneAt (withLane 7 (setTag 0 .queued readyLane)) 7)
      ((0xF0 : Byte).setWidth 4).toFin ≠ .free memo) :=
  ⟨⟨rfl, .inl rfl⟩, ⟨rfl, .inl rfl⟩, by decide +kernel⟩

/-- Bodies at the bounds of R121's tests: no nibble, one nibble, 1 and 17 bytes; 2 bytes with a bad and
with a good check byte; a SETTLE's type on 2 bytes. -/
theorem witness_MalformedReasons :
    storedNibbles [.idle, .codingError] = [] ∧
    readBody [.nibble 0x1] = .malformed .length ∧
    readBody ((List.replicate 2 (0 : Nibble)).map .nibble) = .malformed .length ∧
    readBody ((List.replicate 34 (0 : Nibble)).map .nibble) = .malformed .length ∧
    readBody ((nibblesOf [0x1E, 0x00]).map .nibble) = .malformed .check ∧
    readBody (.codingError :: portMessageBody .restart) = .malformed .check ∧
    readBody ((nibblesOf (withCheck [0x2F])).map .nibble) = .malformed .type ∧
    readBody ((nibblesOf (withCheck [0x12])).map .nibble) = .malformed .length := by
  decide +kernel

theorem witness_SettleJudged :
    Heard 7 .own (withLane 7 readyLane) ∧ (laneAt (withLane 7 readyLane) 7).state = .ready ∧
    tagOf (setTag 15 (.settling ⟨none, false, none, 0⟩ .stopped) readyLane) 15 =
      .settling ⟨none, false, none, 0⟩ .stopped ∧
    tagOf (setTag 15 (.free true) readyLane) 15 = .free true ∧ tagOf readyLane 0 = .free false ∧
    tagOf (setTag 0 .queued readyLane) 0 = .queued ∧
    tagOf (setTag 0 (.closing ⟨none, false, none, 0⟩) readyLane) 0 =
      .closing ⟨none, false, none, 0⟩ :=
  ⟨⟨rfl, .inl rfl⟩, by decide +kernel⟩

theorem witness_RestartJudged :
    Heard 7 .own (withLane 7 readyLane) ∧ (laneAt (withLane 7 readyLane) 7).state = .ready ∧
    (laneAt (withLane 7 { readyLane with state := .waiting }) 7).state = .waiting ∧
    (laneAt (withLane 7 { readyLane with state := .held }) 7).state = .held ∧
    (laneAt .reset 7).state = .down ∧ awake .reset :=
  ⟨⟨rfl, .inl rfl⟩, by decide +kernel⟩

theorem witness_RepliesInOtherStates :
    messageOf (.restart 7 .shared) = some (7, .shared, .message .restart) ∧ awake .reset ∧
    (laneAt .reset 7).state = .down ∧
    (laneAt (withLane 7 { readyLane with receiveOpen := false }) 7).receiveOpen = false ∧
    (laneAt (withLane 7 { readyLane with state := .held }) 7).state = .held ∧
    Heard 7 .shared (withLane 7 { readyLane with state := .held }) ∧
    messageOf (.settle 0 .own 0 0 0) = some (0, .own, .message (.settle 0 0 0)) ∧
    Heard 0 .own (withLane 0 { readyLane with state := .waiting }) :=
  ⟨rfl, rfl, rfl, by decide +kernel, by decide +kernel, ⟨rfl, .inr rfl⟩, rfl, ⟨rfl, .inl rfl⟩⟩

theorem witness_TransmitInOrder :
    awake (withLane 7 { readyLane with waiting := [.resume] }) ∧
    (laneAt (withLane 7 { readyLane with waiting := [.resume] }) 7).waiting = .resume :: [] ∧
    (laneAt (withLane 0 readyLane) 0).waiting = [] ∧
    (laneAt (withLane 7 { readyLane with transmitting := some .resume }) 7).transmitting = some .resume ∧
    (laneAt (withLane 0 readyLane) 0).transmitting = none := by decide +kernel

theorem witness_PortMessagesReadBack :
    storedNibbles (.idle :: portMessageBody (.settle 0xFF 0x01 0xFFFF) ++ [.idle]) =
      nibblesOf (portMessageBytes (.settle 0xFF 0x01 0xFFFF)) ∧
    Symbol.codingError ∉ .idle :: portMessageBody (.settle 0xFF 0x01 0xFFFF) ++ [.idle] := by
  decide +kernel

theorem witness_SentMessagesDistinct :
    laneMessageBytes (.pause 0xFFFF) = laneMessageBytes (.pause 0xFFFF) := rfl

/-! ### Witnesses: table operations -/

/-- A part in which the eight lanes and the sweep request, with the pointer at requester `k`. -/
def allAsking (k : Fin 10) : State :=
  { onEveryLane (fun x => { x with queue := [.settle 0 true 0] }) .reset with
    sweepRunning := true, pointer := k }

/-- Requester 9, the sweep, waits while all eight lanes are granted one after another. -/
theorem witness_ArbiterIsFair :
    (∀ u ∈ [allAsking 0, allAsking 1, allAsking 2, allAsking 3, allAsking 4, allAsking 5, allAsking 6,
      allAsking 7], requesting u 9 = true ∧ arbiterChoice u ≠ some 9) ∧
    (∀ k : Fin 8, arbiterChoice (allAsking (k.castLE (by decide))) = some (k.castLE (by decide))) ∧
    arbiterChoice (allAsking 8) = some 9 := by decide +kernel

/-- A lane whose head item is a LOOKUP, one whose head is a SETTLE under a CLOSING tag, a READ running and
a sweep running. -/
theorem witness_GrantTaken :
    let s := withLane 7 { readyLane with queue := [.lookup 15 2 0 0] }
    let u := withLane 7 (setTag 0 (.closing ⟨none, false, none, 0⟩)
      { readyLane with queue := [.settle 0 true 0] })
    awake s ∧ nextGrant s = some 7 ∧ (laneAt s 7).queue = .lookup 15 2 0 0 :: [] ∧
    awake u ∧ nextGrant u = some 7 ∧ (laneAt u 7).queue = .settle 0 true 0 :: [] ∧
    tagOf (laneAt u 7) 0 = .closing ⟨none, false, none, 0⟩ ∧
    runningCode 0x06 (running [(0, 0x06)]) = some (3, [(0, 0x06)]) ∧
    nextGrant (running [(0, 0x06)]) = some 8 ∧
    nextGrant { State.reset with sweepRunning := true } = some 9 := by decide +kernel

/-- Parts in which nothing, the sweep, the Command Unit and a lane are offered a grant. -/
theorem witness_WholeIsItsParts :
    awake .reset ∧ nextGrant .reset = none ∧
    nextGrant { State.reset with sweepRunning := true } = some 9 ∧
    nextGrant (running [(0, 0x06)]) = some 8 ∧
    (resolveOffer (withLane 0 { readyLane with queue := [.lookup 15 2 0 0] })).isSome = true := by
  decide +kernel

theorem known {i : ResolveInput} {ref : Nat} {o : Occupant} {s : State}
    (h : awake s ∧ s.engine = .resolving i ∧ i.copy.enabled = true ∧
      i.copy.members.getLsbD i.lane.val = true ∧ addressClass i.source = .unicast ∧
      searchKey s ⟨i.domain, i.source⟩ = some ref ∧ (entryAt s ref).occupant = some o) :
    ResolvingKnown i ref o s :=
  { awake := h.1, engine := h.2.1, enabled := h.2.2.1, member := h.2.2.2.1, source := h.2.2.2.2.1
    found := h.2.2.2.2.2.1, occupant := h.2.2.2.2.2.2 }

theorem unknown {i : ResolveInput} {s : State}
    (h : awake s ∧ s.engine = .resolving i ∧ i.copy.enabled = true ∧
      i.copy.members.getLsbD i.lane.val = true ∧ addressClass i.source = .unicast ∧
      searchKey s ⟨i.domain, i.source⟩ = none) : ResolvingUnknown i s :=
  { awake := h.1, engine := h.2.1, enabled := h.2.2.1, member := h.2.2.2.1, source := h.2.2.2.2.1
    notFound := h.2.2.2.2.2 }

theorem witness_LookupsDropped :
    Resolving (lookupTo 0 .reset) (resolving (lookupTo 0 .reset) .reset) ∧
    (lookupTo 0 .reset).copy.enabled = false ∧
    openDomain.enabled = true ∧ ({ openDomain with members := 6 } : Domain).members.getLsbD 0 = false ∧
    openDomain.members.getLsbD 0 = true ∧ addressClass 0xFFFFFFFFFFFF ≠ .unicast ∧
    ResolvingKnown (lookupTo 0 openDomain) 8255 { occupantA .pinned with sourcePolicy := .deny }
      (resolving (lookupTo 0 openDomain)
        (holding { occupantA .pinned with sourcePolicy := .deny } .reset)) ∧
    ResolvingKnown (lookupTo 0 openDomain) 8255 (occupantA .pinned)
      (resolving (lookupTo 0 openDomain) (holding (occupantA .pinned) .reset)) ∧
    (occupantA .pinned).place ≠ .unicast (lookupTo 0 openDomain).lane ∧
    ResolvingKnown (lookupTo 0 openDomain) 8255 (occupantA (.stale ⟨false, 15, true⟩))
      (resolving (lookupTo 0 openDomain) (holding (occupantA (.stale ⟨false, 15, true⟩)) .reset)) :=
  ⟨⟨rfl, rfl⟩, rfl, rfl, by decide, by decide, by decide +kernel, known (by decide +kernel), known (by decide +kernel),
    by decide, known (by decide +kernel)⟩

theorem witness_KnownSourceHeard :
    ResolvingKnown (lookupTo 0 openDomain) 8255 (occupantA (.new ⟨false, 0, false⟩ ⟨1, 0⟩))
      (resolving (lookupTo 0 openDomain)
        (holding (occupantA (.new ⟨false, 0, false⟩ ⟨1, 0⟩)) .reset)) ∧
    ResolvingKnown (lookupTo 0 openDomain) 8255 (occupantA (.live ⟨false, 0, false⟩))
      (resolving (lookupTo 0 openDomain) (holding (occupantA (.live ⟨false, 0, false⟩)) .reset)) ∧
    ResolvingKnown (lookupTo 0 openDomain) 8255 (occupantA .pinned)
      (resolving (lookupTo 0 openDomain) (holding (occupantA .pinned) .reset)) :=
  ⟨known (by decide +kernel), known (by decide +kernel), known (by decide +kernel)⟩

/-- A LIVE source at move count 0 freezes at a limit of 1 and does not at a limit of 2 or 0. -/
theorem witness_SourceRehomed :
    ResolvingKnown (lookupTo 0 openDomain) 8255 (occupantA (.live ⟨false, 0, false⟩))
      (resolving (lookupTo 0 openDomain) (holding (occupantA (.live ⟨false, 0, false⟩)) .reset)) ∧
    (occupantA (.live ⟨false, 0, false⟩)).sourcePolicy = .allow ∧
    (occupantA (.live ⟨false, 0, false⟩)).place ≠ .unicast 0 ∧
    openDomain.moveLimit ≠ 0 ∧ openDomain.moveLimit ≤ min (0 + 1) 15 ∧ min (0 + 1) 15 < 2 ∧
    ResolvingKnown (lookupTo 0 openDomain) 8255 (occupantA (.new ⟨false, 0, false⟩ ⟨1, 0⟩))
      (resolving (lookupTo 0 openDomain)
        (holding (occupantA (.new ⟨false, 0, false⟩ ⟨1, 0⟩)) .reset)) :=
  ⟨known (by decide +kernel), rfl, by decide, by decide, by decide, by decide, known (by decide +kernel)⟩

/-- The station at home on L0 with a meter whose credit is `c`. -/
def metered (c : Int) : Occupant :=
  { occupantA .pinned with place := .unicast 0, meter := some ⟨31, c, 0⟩, counterSet := some 1023 }
/-- A profile of ceiling 1 that is enabled, with an action. -/
def enabledProfile (a : MeterAction) : Profile := ⟨true, 0, 1, a, 1⟩

/-- Credits 1 and 0 under an enabled profile of either action, and a disabled profile; the set ATTACHED to
the station; and the same station at home on L1, NEW and LIVE, which the resolve re-homes. -/
theorem witness_MeterTested :
    ResolvingKnown (lookupTo 0 openDomain) 8255 (metered 1)
      (resolving (lookupTo 0 openDomain)
        (holding (metered 1) (setProfileAt 31 (enabledProfile .drop) .reset))) ∧
    ResolvingKnown (lookupTo 0 openDomain) 8255 (metered 0)
      (resolving (lookupTo 0 openDomain)
        (holding (metered 0) (setProfileAt 31 (enabledProfile .pause) .reset))) ∧
    ResolvingKnown (lookupTo 0 openDomain) 8255 (metered 0)
      (resolving (lookupTo 0 openDomain) (holding (metered 0) .reset)) ∧
    (metered 0).sourcePolicy = .allow ∧ (metered 0).place = .unicast 0 ∧
    (profileAt (setProfileAt 31 (enabledProfile .drop) .reset) 31).action = .drop ∧
    (profileAt (setProfileAt 31 (enabledProfile .pause) .reset) 31).action = .pause ∧
    (profileAt .reset 31).enabled = false ∧
    (counterSetAt (setCounterSetAt 1023 ⟨.attached ⟨8255, 255⟩, .zero⟩
      (holding (metered 0) .reset)) 1023).state =
      .attached (pairAt (holding (metered 0) .reset) 8255) ∧
    (∀ life ∈ [Life.new ⟨false, 0, false⟩ ⟨1, 0⟩, .live ⟨false, 0, false⟩],
      let o : Occupant := { metered 1 with place := .unicast 1, life }
      ResolvingKnown (lookupTo 0 openDomain) 8255 o
        (resolving (lookupTo 0 openDomain)
          (holding o (setProfileAt 31 (enabledProfile .drop) .reset)))) ∧
    (metered 1).meter = some ⟨31, 1, 0⟩ :=
  ⟨known (by decide +kernel), known (by decide +kernel), known (by decide +kernel),
    rfl, rfl, by decide +kernel, by decide +kernel, by decide +kernel, by decide +kernel,
    fun life h => known (by revert life; decide +kernel), rfl⟩

/-- Twice the remaining time at the quantum, and one below it. -/
theorem witness_PauseDemandTable :
    readyLane.pauseOn = false ∧ ({ readyLane with pauseOn := true } : Lane).state = .ready ∧
    (10 : Word16).toNat ≤ 2 * 5 ∧ 2 * 4 < (9 : Word16).toNat ∧ readyLane.pause = .idle := by decide

/-- A second station, the destination. -/
def stationB : Key := ⟨2, 0x020000000002⟩
/-- A group address of domain 2. -/
def groupC : Key := ⟨2, 0x010000000003⟩
/-- A state with `o` for a destination in the first spill slot, and a resolve to it in progress. -/
def towards (o : Occupant) : State :=
  resolving (lookupTo o.key.address openDomain) (setEntry 8192 ⟨1, some o⟩ .reset)

/-- Destinations of every clause: not found, NEW, DENY, at the ingress lane, outside the domain, within it;
a group with and without a lane in common. -/
theorem witness_DestinationTable :
    openDomain.learning = false ∧
    ResolvingUnknown (lookupTo 0 openDomain) (resolving (lookupTo 0 openDomain) .reset) ∧
    addressClass 0 = .unicast ∧ searchKey (resolving (lookupTo 0 openDomain) .reset) ⟨2, 0⟩ = none ∧
    addressClass stationB.address = .unicast ∧ addressClass groupC.address = .group ∧
    addressClass 0xFFFFFFFFFFFF = .broadcast ∧
    searchKey (resolving (lookupTo groupC.address openDomain) .reset) groupC = none ∧
    (∀ l : LaneNo, ∀ life ∈ [Life.new ⟨true, 0, false⟩ ⟨0, 0⟩, .live ⟨true, 0, false⟩, .pinned],
      ∀ d ∈ [Policy.allow, .deny],
        ResolvingUnknown (lookupTo stationB.address openDomain)
          (towards ⟨stationB, .unicast l, .allow, d, life, none, none⟩)) ∧
    openDomain.members.getLsbD 7 = false ∧ openDomain.members.getLsbD 2 = true ∧
    (∀ m ∈ [(6 : LaneSet), 1], ResolvingUnknown (lookupTo groupC.address openDomain)
      (towards ⟨groupC, .group m, .allow, .allow, .pinned, none, none⟩)) ∧
    (6 : LaneSet) &&& floodSetOf (lookupTo groupC.address openDomain) ≠ 0 ∧
    (1 : LaneSet) &&& floodSetOf (lookupTo groupC.address openDomain) = 0 ∧
    (∀ l : LaneNo, ∀ c ∈ [(1 : Int), 0],
      let s := holding (metered c) (setProfileAt 31 (enabledProfile .drop)
        (towards ⟨stationB, .unicast l, .allow, .allow, .pinned, none, none⟩))
      ResolvingKnown (lookupTo stationB.address openDomain) 8255 (metered c) s ∧
      (meterNow s (metered c) = some ⟨31, c, 0⟩ ∧ (profileAt s 31).enabled = true)) ∧
    (metered 1).place = .unicast 0 ∧ (metered 1).sourcePolicy = .allow :=
  ⟨rfl, unknown (by decide +kernel), by decide +kernel, by decide +kernel, by decide +kernel,
    by decide +kernel, by decide +kernel, by decide +kernel,
    fun l life hl d hd => unknown (by revert d; revert life; revert l; decide +kernel),
    by decide, by decide, fun m hm => unknown (by revert m; decide +kernel), by decide, by decide,
    fun l c hc => ⟨known (by revert c; revert l; decide +kernel), by revert c; revert l; decide +kernel⟩,
    rfl, rfl⟩

/-- The domain with learning, a default profile and auto-count. -/
def learningDomain : Domain :=
  { openDomain with learning := true, defaultProfile := some 31, autoCount := true }
/-- A lookup to broadcast in it, on a lane that learns. -/
def learningState : State :=
  resolving (lookupTo 0xFFFFFFFFFFFF learningDomain) (withLane 0 { readyLane with learning := true })

/-- Every place of the station's key is taken: the four ways of its bucket and the spill area. -/
def fullState : State :=
  { learningState with
    entries := (placesOf learningState stationA).map fun r =>
      (r, ⟨1, some { occupantA .pinned with key := stationB }⟩) }

theorem witness_LearningOutcomes :
    ResolvingUnknown (lookupTo 0xFFFFFFFFFFFF learningDomain) learningState ∧
    destinationStage (lookupTo 0xFFFFFFFFFFFF learningDomain) learningState =
      (⟨.flood, 6, .broadcast⟩, none) ∧
    (laneAt learningState 0).learning = true ∧ (freePlace learningState stationA).isSome = true ∧
    ResolvingUnknown (lookupTo 0xFFFFFFFFFFFF learningDomain) fullState ∧
    destinationStage (lookupTo 0xFFFFFFFFFFFF learningDomain) fullState =
      (⟨.flood, 6, .broadcast⟩, none) ∧
    freePlace fullState stationA = none :=
  ⟨unknown (by decide +kernel), by decide +kernel, by decide +kernel, by decide +kernel,
    unknown (by decide +kernel), by decide +kernel, by decide +kernel⟩

theorem witness_VerdictPortsLegal : Resolving (lookupTo 0xFFFFFFFFFFFF learningDomain) learningState :=
  ⟨rfl, rfl⟩

theorem witness_ResolveFrame :
    Resolving (lookupTo 0 openDomain)
      (resolving (lookupTo 0 openDomain) (setEntry 8192 ⟨1, some ⟨stationB, .unicast 1, .allow, .allow,
        .pinned, none, none⟩⟩ .reset)) ∧
    (⟨2, (lookupTo 0 openDomain).source⟩ : Key) ≠ stationB := ⟨⟨rfl, rfl⟩, by decide⟩

/-- The three actions, with the item in hand kept or cancelled; a spill count at the watermark. -/
theorem witness_ResultsHandedBack :
    let x : Lane := { readyLane with inHand := some ⟨.lookup 15 2 0 0, false⟩ }
    let s := fun (a : Action) => { withLane 0 x with
      engine := .resolved (lookupTo 0 openDomain) ⟨⟨a, 0, .none⟩, none, false, none⟩ ⟨0, 47, 8209⟩
      occupancy := ⟨0, 48, 8208⟩ }
    (∀ a ∈ [Action.drop, .forward, .flood], awake (s a)) ∧
    (laneAt (s .drop) 0).inHand = some ⟨.lookup 15 2 0 0, false⟩ ∧
    (s .drop).spillMark = 48 ∧
    (laneAt (withLane 0 { x with inHand := some ⟨.settle 0 true 0, true⟩ }) 0).inHand =
      some ⟨.settle 0 true 0, true⟩ ∧
    ({ withLane 0 x with engine := .settled 0 15 ⟨0, 0, 8256⟩ } : State).engine =
      .settled 0 15 ⟨0, 0, 8256⟩ := by
  decide +kernel

/-! ### Witnesses: settle operations, timers, the sweep -/

/-- A settle operation in progress on the station's entry. -/
theorem settling (good created : Bool) (o : Occupant) :
    SettlingSource (settleOf good created) ⟨8255, 255⟩ o
      { holding o .reset with engine := .settling (settleOf good created) } :=
  { awake := rfl, engine := rfl, recorded := rfl, occupant := rfl }

/-- The destination of a FORWARD from the station, with a set of its own. -/
def destinationB : Occupant := ⟨stationB, .unicast 2, .allow, .allow, .pinned, none, some 1022⟩
/-- A settle of a tag that records both, the destination under generation `g`. -/
def settleBoth (good : Bool) (g : Byte) : SettleInput :=
  ⟨7, 15, ⟨some ⟨8255, 255⟩, false, some ⟨8192, g⟩, 0⟩, good, 65535⟩
/-- The part with that settle operation in progress, the destination standing under generation 1. -/
def settlingBoth (good : Bool) (g : Byte) : State :=
  { holding (metered 1) (setEntry 8192 ⟨1, some destinationB⟩
      (setCounterSetAt 1022 ⟨.attached ⟨8192, 1⟩, .zero⟩
        (setCounterSetAt 1023 ⟨.attached ⟨8255, 255⟩, .zero⟩ .reset))) with
    engine := .settling (settleBoth good g) }

theorem witness_SourceSettled :
    SettlingSource (settleOf true true) ⟨8255, 255⟩ (occupantA (.new ⟨false, 0, false⟩ ⟨7, 15⟩))
      { holding (occupantA (.new ⟨false, 0, false⟩ ⟨7, 15⟩)) .reset with
        engine := .settling (settleOf true true) } ∧
    SettlingSource (settleOf false true) ⟨8255, 255⟩ (metered (-16777215))
      { holding (metered (-16777215)) .reset with engine := .settling (settleOf false true) } ∧
    (∀ a g, (metered (-16777215)).life ≠ .new a g) ∧
    SettlingSource (settleOf false false) ⟨8255, 255⟩ (occupantA (.new ⟨false, 0, false⟩ ⟨7, 15⟩))
      { holding (occupantA (.new ⟨false, 0, false⟩ ⟨7, 15⟩)) .reset with
        engine := .settling (settleOf false false) } ∧
    (∀ good : Bool, ∀ g ∈ [(1 : Byte), 2],
      SettlingSource (settleBoth good g) ⟨8255, 255⟩ (metered 1) (settlingBoth good g) ∧
      current (settlingBoth good g) ⟨8192, g⟩ = (g == 1)) ∧
    (settleBoth true 1).record.destination = some ⟨8192, 1⟩ ∧
    entryAt (settlingBoth true 1) 8192 = ⟨1, some destinationB⟩ ∧ (metered 1).life = .pinned :=
  ⟨settling _ _ _, settling _ _ _, fun _ _ => by simp [metered, occupantA], settling _ _ _,
    fun good g hg => ⟨⟨⟨rfl, rfl⟩, rfl, rfl⟩, by revert g; revert good; decide +kernel⟩, rfl,
    by decide +kernel, rfl⟩

theorem witness_OriginTagRejects :
    SettlingSource (settleOf false true) ⟨8255, 255⟩ (occupantA (.new ⟨false, 0, false⟩ ⟨7, 15⟩))
      { holding (occupantA (.new ⟨false, 0, false⟩ ⟨7, 15⟩)) .reset with
        engine := .settling (settleOf false true) } ∧
    (occupantA (.new ⟨false, 0, false⟩ ⟨7, 15⟩)).life =
      .new ⟨false, 0, false⟩ ⟨(settleOf false true).lane, (settleOf false true).tag⟩ ∧
    (let i : SettleInput := { settleBoth false 1 with record := ⟨some ⟨8255, 255⟩, true, some ⟨8192, 1⟩, 0⟩ }
     let o := occupantA (.new ⟨false, 0, false⟩ ⟨7, 15⟩)
     SettlingSource i ⟨8255, 255⟩ o { holding o (settlingBoth false 1) with engine := .settling i } ∧
     i.good = false ∧ i.record.created = true ∧ i.record.destination = some ⟨8192, 1⟩) :=
  ⟨settling _ _ _, rfl, ⟨⟨rfl, rfl⟩, rfl, rfl⟩, rfl, rfl, rfl⟩

/-- A current destination with a set of its own, a stale one, and a stale source beside a current
destination. -/
theorem witness_DestinationAndLostCharges :
    let i : SettleInput := ⟨7, 0, ⟨none, false, some ⟨8255, 255⟩, 0⟩, true, 0⟩
    let s := { setCounterSetAt 1023 ⟨.attached ⟨8255, 255⟩, .zero⟩ (holding (metered 0) .reset) with
      engine := Engine.settling i }
    let u := { s with engine := Engine.settling { i with record := ⟨some ⟨8255, 254⟩, false, none, 0⟩ } }
    Settling i s ∧ i.record.source = none ∧ entryAt s 8255 = ⟨255, some (metered 0)⟩ ∧
    (counterSetAt s 1023).state = .attached ⟨8255, 255⟩ ∧ current s ⟨8255, 255⟩ = true ∧
    current s ⟨8255, 254⟩ = false ∧
    Settling { i with record := ⟨some ⟨8255, 254⟩, false, none, 0⟩ } u ∧
    (let both : SettleInput := { i with record := ⟨some ⟨8192, 1⟩, false, some ⟨8255, 255⟩, 0⟩ }
     Settling both { s with engine := .settling both } ∧ current s ⟨8192, 1⟩ = false) :=
  ⟨⟨rfl, rfl⟩, rfl, by decide +kernel, by decide +kernel, by decide +kernel, by decide +kernel,
    ⟨rfl, rfl⟩, ⟨rfl, rfl⟩, by decide +kernel⟩

theorem witness_LaneTimersRunOut :
    let s := withLane 7 (setTag 15 (.settling ⟨none, false, none, 0⟩ .ranOut)
      { readyLane with pause := .pausing 0 1 })
    awake s ∧ tagOf (laneAt s 7) 15 = .settling ⟨none, false, none, 0⟩ .ranOut ∧
    (laneAt s 7).pause = .pausing 0 1 := by decide +kernel

theorem witness_TicksOfTheTimebase :
    awake { State.reset with subMs := 999 } ∧ ({ State.reset with subMs := 999 } : State).subMs < 1000 ∧
    ({ State.reset with subMs := 1000 } : State).subMs = 1000 := by decide

theorem witness_AgeTickAndAgingCommands :
    awake { State.reset with ageTimer := some 0 } ∧
    ({ State.reset with ageTimer := some 0 } : State).ageTimer = some 0 ∧
    ({ State.reset with ageTimer := some 0 } : State).sweepRunning = false ∧
    ({ State.reset with ageTimer := some 0, sweepRunning := true } : State).sweepRunning = true ∧
    CommandRunning 0x38 3 [(0, 0x38), (2, 4095)] (running [(0, 0x38), (2, 4095)]) ∧
    CommandRunning 0x38 3 [(0, 0x38), (2, 4096)] (running [(0, 0x38), (2, 4096)]) ∧
    CommandRunning 0x39 3 [(0, 0x39)] (running [(0, 0x39)]) ∧
    CommandRunning 0x39 3 [(0, 0x39)] { running [(0, 0x39)] with sweepRunning := true } :=
  ⟨rfl, rfl, rfl, rfl, ⟨rfl, by decide +kernel⟩, ⟨rfl, by decide +kernel⟩, ⟨rfl, by decide +kernel⟩,
    ⟨rfl, by decide +kernel⟩⟩

theorem witness_SweepStepVisits :
    let s := fun k => { State.reset with engine := .sweepStep, sweepRunning := true, sweepCursor := k }
    awake (s 2054) ∧ (s 2054).engine = .sweepStep ∧ (s 2054).sweepCursor < 2055 ∧
    2055 ≤ (s 2055).sweepCursor ∧ 8255 ∈ stepRefs 2055 ∧ 8247 ∉ stepRefs 2055 ∧
    namesSet (holding { metered 1 with life := .stale ⟨false, 0, false⟩ } (s 2055)) 8255 = true ∧
    orphansBit [8255] { holding (metered 1) (s 2055) with orphanMark := 1 } = 0x0800 ∧
    orphansBit [8255] (holding (metered 1) (s 2055)) = 0 := by decide +kernel

/-! ### Witnesses: the Command Unit and its commands -/

theorem witness_CommandStarts :
    let s := fun b => { setSlot 3 (.pending b) .reset with order := [3] }
    awake (s []) ∧ runningSlot (s []) = none ∧ (s []).order = 3 :: [] ∧
    slotAt (s [(0, 0x45)]) 3 = .pending [(0, 0x45)] ∧
    isDirectCode 0x45 = true ∧ isTableCode 0x0B = true ∧ isWalkCode 0x0B = false ∧
    isWalkCode 0x12 = true ∧ isTableCode 0x00 = false ∧ isDirectCode 0x00 = false ∧
    codeOf [(0, 0x12), (2, 8191)] = 0x12 ∧ (wordAt [(0, 0x12), (2, 8191)] 2).toNat < 8192 ∧
    (wordAt [(0, 0x12), (2, 8192)] 2).toNat = 8192 ∧ (wordAt [(0, 0x12), (2, 8255)] 2).toNat < 8256 ∧
    8256 ≤ (wordAt [(0, 0x12), (2, 8256)] 2).toNat := by decide +kernel

/-- A table command in progress in slot 3. -/
theorem grantedAt (c : Byte) (b : Block) (h : codeOf b = c) : CommandGranted c 3 b (granted b) :=
  { awake := rfl
    running := by
      show (if codeOf b = c then some ((3 : SlotNo), b) else none) = some (3, b)
      rw [if_pos h]
    granted := rfl }

/-- A command taken directly, RUNNING in slot 3. -/
theorem runningAt (c : Byte) (b : Block) (h : codeOf b = c) : CommandRunning c 3 b (running b) :=
  { awake := rfl
    running := by
      show (if codeOf b = c then some ((3 : SlotNo), b) else none) = some (3, b)
      rw [if_pos h] }

/-- INSERT of the station, STATIC, homed at L7, with profile 31 and set 1023. -/
def insertBlock : Block :=
  [(0, 0x01), (2, 1023), (4, 2), (5, 0x0200), (7, 1), (9, 1), (10, 7), (14, 31)]
/-- Its operands. -/
def insertion : InsertOperands :=
  ⟨stationA, false, true, some 7, 0, .allow, .allow, some 31, some (.named 1023)⟩

theorem witness_InsertPlaces :
    CommandGranted 0x01 3 insertBlock (granted insertBlock) ∧
    insertOperands insertBlock = some insertion ∧ insertPlace insertion = some (.unicast 7) ∧
    searchKey (granted insertBlock) stationA = none ∧
    (freePlace (granted insertBlock) stationA).isSome = true ∧
    searchKey (holding (occupantA .pinned) .reset) stationA = some 8255 ∧
    lowestFreeSet (setCounterSetAt 0 ⟨.orphaned stationA, .zero⟩ .reset) = some 1 :=
  ⟨grantedAt _ _ (by decide +kernel), by decide +kernel⟩

/-- The same INSERT at the bounds of its refusals: a home lane of 8, a group kind for a unicast address, the
key present, and no place free. -/
theorem witness_HostEntryCommandsRefused :
    insertOperands (setWord 10 8 insertBlock) = none ∧
    addressClass ({ insertion with isGroup := true } : InsertOperands).key.address = .unicast ∧
    insertPlace insertion = some (.unicast 7) ∧
    searchKey (holding (occupantA .pinned) (granted insertBlock)) stationA = some 8255 ∧
    (searchKey { fullState with engine := .command } stationA = none ∧
      freePlace { fullState with engine := .command } stationA = none) ∧
    CommandGranted 0x03 3 [(0, 0x03), (2, 8256)] (granted [(0, 0x03), (2, 8256)]) ∧
    CommandGranted 0x03 3 [(0, 0x03), (2, 8255)] (granted [(0, 0x03), (2, 8255)]) ∧
    current (granted [(0, 0x03), (2, 8255)]) ⟨8255, 0⟩ = false ∧
    CommandGranted 0x04 3 [(0, 0x04), (4, 256)] (granted [(0, 0x04), (4, 256)]) ∧
    searchableKeyOf [(0, 0x04), (4, 256)] = none ∧
    searchableKeyOf [(0, 0x04), (4, 255)] = some ⟨255, 0⟩ ∧
    searchKey (granted [(0, 0x04), (4, 255)]) ⟨255, 0⟩ = none ∧
    CommandGranted 0x05 3 [(0, 0x05), (4, 256)] (granted [(0, 0x05), (4, 256)]) ∧
    CommandGranted 0x06 3 [(0, 0x06), (2, 8256)] (granted [(0, 0x06), (2, 8256)]) :=
  ⟨by decide +kernel, by decide +kernel, by decide +kernel, by decide +kernel, by decide +kernel,
    grantedAt _ _ (by decide +kernel), grantedAt _ _ (by decide +kernel), by decide +kernel,
    grantedAt _ _ (by decide +kernel), by decide +kernel, by decide +kernel, by decide +kernel,
    grantedAt _ _ (by decide +kernel), grantedAt _ _ (by decide +kernel)⟩

/-- UPDATE of the entry in the last spill slot: pin named, and an operand refused. -/
theorem witness_UpdateChangesEntry :
    let b : Block := [(0, 0x02), (1, 1), (2, 8255), (3, 255)]
    let o := occupantA (.live ⟨true, 15, true⟩)
    CommandGranted 0x02 3 b (granted b) ∧ (updateChanges b).isSome = true ∧
    (wordAt b 2).toNat < 8256 ∧ 8256 ≤ (wordAt [(2, 8256)] 2).toNat ∧
    updateChanges [(1, 3)] = none ∧ current (granted b) ⟨8255, 255⟩ = false ∧
    entryAt (holding o (granted b)) 8255 = ⟨255, some o⟩ ∧
    runningCode 0x02 (holding o (granted b)) = some (3, b) ∧
    o.life ≠ .pinned ∧ (occupantA .pinned).life = .pinned :=
  ⟨grantedAt _ _ (by decide +kernel), by decide +kernel⟩

/-- REMOVE and REMOVE_KEY of a PINNED station in the last spill slot that holds a counter set. -/
theorem witness_RemoveRetires :
    let b : Block := [(0, 0x03), (2, 8255), (3, 255)]
    let c : Block := [(0, 0x04), (4, 2), (5, 0x0200), (7, 1)]
    let s := fun d => holding (metered 0) (granted d)
    awake (s b) ∧ (s b).engine = .command ∧ runningCode 0x03 (s b) = some (3, b) ∧
    (entryAt (s b) 8255).occupant = some (metered 0) ∧ wordAt b 2 = BitVec.ofNat 16 8255 ∧
    (wordAt b 3).setWidth 8 = (entryAt (s b) 8255).generation ∧
    runningCode 0x04 (s c) = some (3, c) ∧ searchableKeyOf c = some stationA ∧
    searchKey (s c) stationA = some 8255 := by decide +kernel

theorem witness_FindAndReadReport :
    let b : Block := [(0, 0x05), (4, 2), (5, 0x0200), (7, 1)]
    let c : Block := [(0, 0x06), (2, 8255)]
    let s := fun d => holding (metered 0) (granted d)
    awake (s b) ∧ (s b).engine = .command ∧ runningCode 0x05 (s b) = some (3, b) ∧
    searchableKeyOf b = some stationA ∧ searchKey (s b) stationA = some 8255 ∧
    runningCode 0x06 (s c) = some (3, c) ∧ (wordAt c 2).toNat = 8255 := by decide +kernel

/-- ATTACH asking for set 1023 of a station with a set, without one, and with none left; DETACH; a ref of
8256, a set of 1024 and a stale pair. -/
theorem witness_AttachAndDetach :
    let b : Block := [(0, 0x07), (2, 8255), (3, 255), (8, 1023)]
    let c : Block := [(0, 0x08), (2, 8255), (3, 255)]
    let s := fun o d => holding o (granted d)
    (∀ r : Word16, runningCode 0x07 (granted [(0, 0x07), (2, r)]) = some (3, [(0, 0x07), (2, r)]) ∧
      runningCode 0x08 (granted [(0, 0x08), (2, r)]) = some (3, [(0, 0x08), (2, r)])) ∧
    runningCode 0x07 (s (metered 0) b) = some (3, b) ∧ setOrAnyOf (wordAt b 8) = some (.named 1023) ∧
    entryAt (s (metered 0) b) 8255 = ⟨255, some (metered 0)⟩ ∧ (metered 0).counterSet = some 1023 ∧
    (occupantA .pinned).counterSet = none ∧
    answerRequest (.named 1023) (s (occupantA .pinned) b) = some 1023 ∧
    answerRequest (.named 1023)
      (setCounterSetAt 1023 ⟨.orphaned stationB, .zero⟩ (s (occupantA .pinned) b)) = none ∧
    runningCode 0x08 (s (metered 0) c) = some (3, c) ∧ (wordAt c 2).toNat = 8255 ∧
    (wordAt c 3).setWidth 8 = (255 : Byte) ∧
    8256 ≤ (wordAt [(0, 0x07), (2, 8256)] 2).toNat ∧ setOrAnyOf 1024 = none ∧
    current (granted b) ⟨8255, 255⟩ = false :=
  ⟨fun _ => ⟨rfl, rfl⟩, by decide +kernel⟩

theorem witness_TableSettings :
    CommandGranted 0x09 3 [(0, 0x09), (2, 3)] (granted [(0, 0x09), (2, 3)]) ∧
    CommandGranted 0x09 3 [(0, 0x09), (2, 2)] (granted [(0, 0x09), (2, 2)]) ∧
    (granted [(0, 0x09), (2, 2)]).occupancy.main = 0 ∧
    ({ granted [(0, 0x09), (2, 2)] with occupancy := ⟨0, 1, 8255⟩ } : State).occupancy.spill ≠ 0 ∧
    CommandGranted 0x0A 3 [(0, 0x0A), (2, 65)] (granted [(0, 0x0A), (2, 65)]) ∧
    CommandGranted 0x0A 3 [(0, 0x0A), (2, 64)] (granted [(0, 0x0A), (2, 64)]) ∧
    CommandGranted 0x0B 3 [(0, 0x0B)] (granted [(0, 0x0B)]) ∧
    CommandGranted 0x0B 3 [(0, 0x0B), (1, 1)] (granted [(0, 0x0B), (1, 1)]) ∧
    CommandRunning 0x0B 3 [(0, 0x0B), (1, 1)] (running [(0, 0x0B), (1, 1)]) ∧
    nextGrant (running [(0, 0x0B), (1, 1)]) = some 8 ∧
    ({ running [(0, 0x0B)] with engine := .readingStats .zero } : State).engine = .readingStats .zero :=
  ⟨grantedAt _ _ (by decide +kernel), grantedAt _ _ (by decide +kernel), rfl, by decide,
    grantedAt _ _ (by decide +kernel), grantedAt _ _ (by decide +kernel),
    grantedAt _ _ (by decide +kernel), grantedAt _ _ (by decide +kernel),
    runningAt _ _ (by decide +kernel), by decide +kernel, rfl⟩

/-- A walk over everything, at step `k`. -/
def walkAt (k : Nat) (aborted : Bool) : Walk := ⟨0xFFFE, 0xFFFE, 2, 2, 0, k, k, 0, aborted⟩
/-- The same RUNNING under code `c`, with the station in the last spill slot. -/
def walking (c : Word16) (w : Walk) : State :=
  { holding (occupantA .pinned) (granted [(0, c)]) with walk := some w }

theorem witness_CountAndSearchStep :
    (walkOperands (walkAt 2055 false)).isSome = true ∧ (walkAt 2054 false).cursor < 2055 ∧
    2055 ≤ (walkAt 2055 false).cursor ∧ (walkAt 2055 true).aborted = true ∧
    runningCode 0x11 (walking 0x11 (walkAt 2055 false)) = some (3, [(0, 0x11)]) ∧
    runningCode 0x12 (walking 0x12 (walkAt 2055 false)) = some (3, [(0, 0x12)]) ∧
    (∀ q ∈ walkOperands (walkAt 2055 false),
      ((stepRefs 2055).find? fun r => matchesAt q (walking 0x12 (walkAt 2055 false)) r) = some 8255 ∧
      ((stepRefs 2054).find? fun r => matchesAt q (walking 0x12 (walkAt 2054 false)) r) = none) ∧
    (∀ aborted : Bool, walkOperands { walkAt 0 aborted with lane := 8 } = none ∧
      (walking 0x11 { walkAt 0 aborted with lane := 8 }).walk = some { walkAt 0 aborted with lane := 8 }) ∧
    walkOperands { walkAt 2056 false with startRef := 8256 } = none := by
  decide +kernel

theorem witness_FlushStep :
    awake (walking 0x10 (walkAt 2055 false)) ∧ (walking 0x10 (walkAt 2055 false)).engine = .command ∧
    runningCode 0x10 (walking 0x10 (walkAt 2055 false)) = some (3, [(0, 0x10)]) ∧
    (walking 0x10 (walkAt 2055 false)).walk = some (walkAt 2055 false) ∧
    (walkOperands (walkAt 2054 false)).isSome = true ∧
    walkOperands { walkAt 0 false with cls := 3 } = none ∧
    (walking 0x10 (walkAt 2054 true)).walk = some (walkAt 2054 true) ∧
    walkOperands { walkAt 0 true with kind := 3 } = none := by decide +kernel

theorem witness_DomainAndProfileCommands :
    CommandRunning 0x20 3 [(0, 0x20), (2, 256)] (running [(0, 0x20), (2, 256)]) ∧
    CommandRunning 0x20 3 [(0, 0x20), (2, 255), (1, 0x80), (14, 16)]
      (running [(0, 0x20), (2, 255), (1, 0x80), (14, 16)]) ∧
    domainWritten [(1, 0x80), (14, 16)] .reset = none ∧
    (domainWritten [(1, 0x80), (14, 15)] .reset).isSome = true ∧
    CommandRunning 0x21 3 [(0, 0x21), (2, 255)] (running [(0, 0x21), (2, 255)]) ∧
    CommandRunning 0x28 3 [(0, 0x28), (2, 32)] (running [(0, 0x28), (2, 32)]) ∧
    CommandRunning 0x28 3 [(0, 0x28), (2, 31)] (running [(0, 0x28), (2, 31)]) ∧
    profileWritten [(1, 0x04), (10, 0x0100)] .reset = none ∧
    (profileWritten [(1, 0x04), (10, 0x00FF), (11, 0xFFFF)] .reset).isSome = true ∧
    CommandRunning 0x29 3 [(0, 0x29), (2, 31)] (running [(0, 0x29), (2, 31)]) :=
  ⟨runningAt _ _ (by decide +kernel), runningAt _ _ (by decide +kernel), by decide +kernel,
    by decide +kernel, runningAt _ _ (by decide +kernel), runningAt _ _ (by decide +kernel),
    runningAt _ _ (by decide +kernel), by decide +kernel, by decide +kernel,
    runningAt _ _ (by decide +kernel)⟩

theorem witness_PoolCommands :
    CommandRunning 0x30 3 [(0, 0x30), (2, 1024)] (running [(0, 0x30), (2, 1024)]) ∧
    CommandRunning 0x30 3 [(0, 0x30), (1, 1), (2, 1023)] (running [(0, 0x30), (1, 1), (2, 1023)]) ∧
    CommandRunning 0x31 3 [(0, 0x31), (2, 1023)]
      (setCounterSetAt 1023 ⟨.orphaned stationA, .zero⟩ (running [(0, 0x31), (2, 1023)])) ∧
    (counterSetAt (setCounterSetAt 1023 ⟨.orphaned stationA, .zero⟩ .reset) 1023).state =
      .orphaned stationA ∧
    CommandRunning 0x32 3 [(0, 0x32), (8, 2)] (running [(0, 0x32), (8, 2)]) ∧
    CommandRunning 0x32 3 [(0, 0x32), (8, 1), (9, 1024)] (running [(0, 0x32), (8, 1), (9, 1024)]) :=
  ⟨runningAt _ _ (by decide +kernel), runningAt _ _ (by decide +kernel), ⟨rfl, by decide +kernel⟩,
    by decide +kernel, runningAt _ _ (by decide +kernel), runningAt _ _ (by decide +kernel)⟩

/-- Every lane command on L7 and on a lane number of 8, on a DOWN, a READY and a HELD lane. -/
theorem witness_LaneCommands :
    (∀ p ∈ [((0x40 : Byte), (0x40 : Word16)), (0x41, 0x41), (0x42, 0x42), (0x43, 0x43), (0x44, 0x44),
        (0x45, 0x45)], ∀ l : Word16, ∀ x : Lane,
      CommandRunning p.1 3 [(0, p.2), (2, l)] (setLane 7 x (running [(0, p.2), (2, l)]))) ∧
    (wordAt [(0, 0x40), (2, 7)] 2).toNat = (7 : LaneNo).val ∧
    7 < (wordAt [(0, 0x40), (2, 8)] 2).toNat ∧
    (laneAt .reset 7).state = .down ∧ (laneAt (withLane 7 readyLane) 7).state ≠ .down ∧
    (laneAt (withLane 7 { readyLane with state := .held }) 7).state = .held ∧
    (laneAt (withLane 7 { readyLane with pause := .pausing 1 1 }) 7).pause = .pausing 1 1 ∧
    (wordAt [(10, 255)] 10).toNat ≤ 255 ∧ ¬(wordAt [(10, 256)] 10).toNat ≤ 255 := by
  refine ⟨fun p hp l x => ⟨rfl, ?_⟩, by decide +kernel⟩
  simp only [List.mem_cons, List.not_mem_nil, or_false] at hp
  rcases hp with rfl | rfl | rfl | rfl | rfl | rfl <;> rfl

/-! ### Witnesses: the Host Window, the laws -/

/-- All slots EMPTY, slot 0 alone taken, all DONE; values 3 and 4. -/
theorem witness_SubmitAndRetire :
    let done : Slot := .done [] ⟨0, .ok, []⟩
    let full := setSlot 0 done (setSlot 1 done (setSlot 2 done (setSlot 3 done .reset)))
    awake .reset ∧ slotAt .reset 0 = .empty ∧ slotAt (setSlot 0 done .reset) 1 = .empty ∧
    (∀ m : SlotNo, m < 1 → slotAt (setSlot 0 done .reset) m ≠ .empty) ∧
    (∀ n : SlotNo, slotAt full n ≠ .empty) ∧ (3 : Word16).toNat = (3 : SlotNo).val ∧
    slotAt full 3 = .done [] ⟨0, .ok, []⟩ ∧ 3 < (4 : Word16).toNat ∧
    (∀ b r, slotAt .reset 3 ≠ .done b r) :=
  ⟨rfl, rfl, rfl, by decide +kernel, by decide +kernel, rfl, rfl, by decide, fun _ _ h => nomatch h⟩

theorem witness_AbortActs :
    let s := { setSlot 3 (.running [(0, 0x10)]) .reset with walk := some (walkAt 1 false) }
    awake s ∧ 3 < (4 : Word16).toNat ∧ (3 : Word16).toNat = (3 : SlotNo).val ∧
    slotAt s 0 = .empty ∧ slotAt (setSlot 3 (.pending []) .reset) 3 = .pending [] ∧
    slotAt s 3 = .running [(0, 0x10)] ∧ isWalkCode (codeOf [(0, 0x10)]) = true ∧
    isWalkCode (codeOf [(0, 0x01)]) = false ∧ s.walk = some (walkAt 1 false) ∧ s.engine ≠ .command ∧
    ({ s with engine := .command } : State).engine = .command := by decide +kernel

theorem witness_InterruptWords : awake .reset := rfl

theorem witness_WindowWords :
    slotAt (setSlot 3 (.done [] ⟨0x12, .ok, [1]⟩) .reset) 3 = .done [] ⟨0x12, .ok, [1]⟩ ∧
    (∀ b r, slotAt .reset 0 ≠ .done b r) ∧ (0x6B : BitVec 7) ≤ 0x6B ∧ (0x6B : BitVec 7) < 0x70 ∧
    awake .reset ∧ (0x0100 : Word16).setWidth 8 = 0#8 ∧ (0x01FF : Word16).setWidth 8 ≠ 0#8 ∧
    (0x0F : BitVec 7).toNat < 16 ∧ 16 ≤ (0x7E : BitVec 7).toNat ∧
    (Instr.registerWrite 0x7E 0).wellFormed = true :=
  ⟨rfl, fun _ _ h => (nomatch h), by decide⟩

/-- A resolve from the PINNED station's own key. -/
theorem witness_PinnedKept :
    let s := resolving (lookupTo 0 openDomain) (holding (metered 1) .reset)
    Instr.wellFormed (.resolve .perform) = true ∧ isHostChange (.resolve .perform) = false ∧
    (entryAt s 8255).occupant = some (metered 1) ∧ (metered 1).life = .pinned ∧
    ∃ t, exec (.resolve .perform) s = .next t := ⟨rfl, rfl, rfl, rfl, _, rfl⟩

/-- Elapsed times that together reach 2^32 − 1. -/
theorem witness_BringUpsCompose :
    ((0xFFFFFFFE : Time) - 0).toNat + ((0xFFFFFFFF : Time) - 0xFFFFFFFE).toNat < 4294967296 := by decide

/-- A part with a READY lane, a spill watermark of 64 and a read of the counter waiting. -/
def working : State :=
  { withLane 7 readyLane with spillMark := 64, pending := [.millisecondCounterLowRead] }
/-- The same with the read taken. -/
def worked : State := { withLane 7 readyLane with spillMark := 64 }

theorem working_steps : step working = .next worked := rfl

theorem witness_StepKeepsStores : StoresCanonical working ∧ step working = .next worked :=
  ⟨{ entries := by decide +kernel, domains := by decide +kernel, profiles := by decide +kernel
     counterSets := by decide +kernel, lanes := by decide +kernel, tags := by decide +kernel
     slots := by decide +kernel, submission := by decide +kernel }, working_steps⟩

theorem witness_StepKeepsValues :
    SettingsLegal working ∧ RecordsLegal working ∧ EntriesLegal working ∧
    step working = .next worked :=
  ⟨{ spillMark := by decide, orphanMark := by decide, agePeriod := by decide
     ageTimer := fun _ h => (nomatch h)
     sweepCursor := by decide, sweepIdle := fun _ => rfl, sweeping := fun h => (nomatch h)
     divider := by decide, tickDivider := by decide, subMs := by decide
     irqPending := by decide, irqEnable := by decide },
    ⟨fun _ => Nat.zero_le _, fun _ => ⟨Nat.le_refl 1, by show 1 ≤ 16777215; decide⟩,
      fun _ => by show (1 : Word16) ≠ 0; decide⟩,
    fun _ _ h => (nomatch h), working_steps⟩

theorem witness_StepKeepsTable :
    OccupancyTrue working ∧ KeysPlaced working ∧ step working = .next worked :=
  ⟨⟨by decide +kernel, by decide +kernel, by decide +kernel, fun _ _ => rfl⟩,
    ⟨fun _ _ _ _ h => (nomatch h), fun _ _ h => (nomatch h)⟩, working_steps⟩

theorem witness_StepKeepsPool : PoolPaired working ∧ step working = .next worked :=
  ⟨⟨fun _ _ _ h => (nomatch h), fun _ _ h => (nomatch h), fun _ _ => rfl, by decide +kernel,
    fun _ _ => rfl⟩, working_steps⟩

theorem working_lanes : ∀ l : LaneNo, laneAt working l = .reset ∨ laneAt working l = readyLane := by
  decide +kernel

theorem witness_StepKeepsLanes : LanesLawful working ∧ step working = .next worked :=
  ⟨⟨fun l => by
      rcases working_lanes l with h | h <;> rw [h] <;>
        exact ⟨fun _ hi => (nomatch hi), List.nodup_nil, fun _ => ⟨fun _ => rfl, rfl⟩, fun _ => rfl⟩,
    ⟨fun l => by rcases working_lanes l with h | h <;> rw [h] <;> rfl⟩⟩, working_steps⟩

theorem witness_StepKeepsSlots : SlotsOrdered working ∧ step working = .next worked :=
  ⟨⟨by decide +kernel, List.nodup_nil, by decide +kernel⟩, working_steps⟩

/-! ### Formats, each expected value written out from Chapter 11's tables -/

/-- A LOOKUP on tag 3 in domain 2, written out nibble by nibble (Table 11-2, R183), is read back. -/
theorem test_lookup_nibbles :
    let bytes : List Byte :=
      [0x11, 0x03, 0x02, 0x02, 0x11, 0x22, 0x33, 0x44, 0x55, 0x02, 0x00, 0x00, 0x00, 0x00, 0x01]
    bytesOfNibbles [0x1, 0x1, 0x3, 0x0, 0x2, 0x0] = [0x11, 0x03, 0x02] ∧
    readMessage (bytes ++ [crc8 bytes]) =
      .message (.lookup 0x03 0x02 0x021122334455 0x020000000001) := by decide +kernel

/-- A VERDICT FLOOD to {0, 2} on tag 5 with reason UNKNOWN_UNICAST, and a PAUSE of 258 µs, but for their
check bytes (Tables 11-2 and 11-3). -/
theorem test_sent_bytes :
    (laneMessageBytes (.verdict 5 ⟨.flood, 0x05, .unknownUnicast⟩)).dropLast =
      [0x21, 0x05, 0x02, 0x05, 0x02] ∧
    (laneMessageBytes (.pause 258)).dropLast = [0x23, 0x01, 0x02] ∧
    (laneMessageBytes (.fault .held)).dropLast = [0x2E, 0x06] := by decide +kernel

/-- A RESTART_ACK on the transmit lines: a frame mark, its two bytes low nibble first, and a closing frame
mark; idle symbols when no message is in transmission and while RESET# is low (R182, R187, Table 11-1). -/
theorem test_transmitLines :
    let s := withLane 3 { readyLane with transmitting := some .restartAck }
    transmitLines s 3 =
      [⟨true, 1⟩, ⟨false, 0xF⟩, ⟨false, 0x2⟩, ⟨false, 0xD⟩, ⟨false, 0xC⟩, ⟨true, 1⟩] ∧
    transmitLines s 2 = [⟨true, 0⟩] ∧ transmitLines { s with resetLow := true } 3 = [⟨true, 0⟩] := by
  decide +kernel

/-- What the receive side takes the symbols of Table 11-1 for. -/
theorem test_linkReads :
    linkReads ⟨false, 0x0⟩ = some (.nibble 0) ∧ linkReads ⟨true, 0x0⟩ = some .idle ∧
    linkReads ⟨true, 0x1⟩ = none ∧ linkReads ⟨true, 0x2⟩ = some .codingError ∧
    linkReads ⟨true, 0xF⟩ = some .codingError := by decide

/-- The state a command leads to. -/
def after (c : Instr) (s : State) : State :=
  match exec c s with
  | .next t => t
  | _ => s

/-- A READ_TABLE_STATS with clear whose grant comes before an overrun: it returns the count as at its grant,
and the overrun stands as plus one (R19). -/
theorem test_stats_as_at_grant :
    let s : State := { running [(0, 0x0B), (1, 1)] with
      tableStats := { TableStats.zero with sweepOverruns := 4 }, ageTimer := some 0 }
    let read := after (.readTableStats .finish)
      (after .ageTick { after (.readTableStats .grant) s with sweepRunning := true })
    read.tableStats.sweepOverruns = 1 ∧
    (List.range 3).map (fun k => windowRead read (BitVec.ofNat 7 (0x50 + k))) = [0x0B01, 0, 0] ∧
    slotAt read 3 = .done [(0, 0x0B), (1, 1)] ⟨0x0B, .ok, List.replicate 17 0 ++ [4]⟩ := by
  decide +kernel

/-- The least significant bit of byte 0 tells group from unicast; all ones is broadcast (R1). -/
theorem test_addressClass :
    addressClass 0x010000000000 = .group ∧ addressClass 0xFE0000000001 = .unicast ∧
    addressClass 0xFFFFFFFFFFFF = .broadcast ∧ addressClass 0xFFFFFFFFFFFE = .group := by
  decide +kernel

/-- The entry image of a LIVE station with a meter of credit −2 and counter set 5 (section 11.6). -/
theorem test_entryImage :
    entryImage 8255 ⟨7, some ⟨⟨2, 0x021122334455⟩, .unicast 3, .allow, .deny, .live ⟨true, 9, true⟩,
      some ⟨31, -2, 0x00010002⟩, some 5⟩⟩ =
      [8255, 0x4407, 0x0203, 0x0211, 0x2233, 0x4455, 0xC900, 0x801F, 0xFFFF, 0xFFFE, 0x0001, 0x0002,
        0x8005] := by decide +kernel

/-- The image of a NEW station learned on L6 under tag 10, without a meter or a set, and of a GROUP. -/
theorem test_entryImage_new_and_group :
    entryImage 0 ⟨1, some ⟨stationA, .unicast 6, .allow, .allow, .new ⟨true, 0, false⟩ ⟨6, 10⟩,
      none, none⟩⟩ = [0, 0x2001, 0x0206, 0x0200, 0, 1, 0x806A, 0, 0, 0, 0, 0, 0] ∧
    entryImage 1 ⟨2, some ⟨⟨2, 0x010000000003⟩, .group 0x81, .allow, .allow, .pinned, none, none⟩⟩ =
      [1, 0x9002, 0x0281, 0x0100, 0, 3, 0, 0, 0, 0, 0, 0, 0] := by decide +kernel

/-- A result area's pages: word 0 repeats, page 1 begins at value word 16 (R186). -/
theorem test_result_pages :
    let r : Result := ⟨0x12, .ok, (List.range 16).map fun k => BitVec.ofNat 16 (k + 100)⟩
    let s := setSlot 1 (.done [] r) .reset
    let paged : State := { s with submission := put 0 s.submission 15 1 }
    windowRead s 0x30 = 0x1201 ∧ windowRead s 0x31 = 100 ∧ windowRead s 0x3F = 114 ∧
    windowRead paged 0x30 = 0x1201 ∧ windowRead paged 0x31 = 115 ∧ windowRead paged 0x32 = 0 ∧
    windowRead s 0x20 = 0 ∧ windowRead s 0x66 = 0x000C := by decide +kernel

/-- The readouts after device reset (Table 11-4). -/
theorem test_reset_readouts :
    windowRead .reset 0x13 = 0xFFFF ∧ windowRead .reset 0x64 = 8256 ∧ windowRead .reset 0x70 = 50 ∧
    windowRead .reset 0x65 = 0 ∧ windowRead .reset 0x7F = 0 := by decide +kernel

/-- READ_LANE_STATS's first three words of a READY lane with learning, timeout 9, one QUEUED tag and its
item (Table 11-6). -/
theorem test_laneWords :
    (laneWords (setTag 4 .queued { readyLane with
      learning := true, settleTimeout := 9, queue := [.lookup 4 2 0 0] })).take 3 =
      [0x0906, 0x0001, 0x0100] := by decide +kernel

end Sys2Proof.Tests
end

namespace Sys2Proof.Machine

-- One proof at a time: the whole text then compiles in few threads.
set_option Elab.async false

/-! ### The table's places -/

/-- A place of a key is a way of its bucket or a spill slot (R8, R9). -/
theorem mem_placesOf {s : State} {k : Key} {ref : Nat} :
    ref ∈ placesOf s k ↔
      ref / 4 = bucketOf s.hashSelect k ∨ (8192 ≤ ref ∧ ref < 8256) := by
  simp only [placesOf, bucketRefs, spillRefs, Config.mainRefs, Config.spillSlots, List.mem_append,
    List.mem_cons, List.not_mem_nil, or_false, List.mem_range'_1]
  omega

/-- A bucket number is below 2048 (R7). -/
theorem bucketOf_lt (select : Fin 3) (k : Key) : bucketOf select k < 2048 := by
  unfold bucketOf
  exact BitVec.isLt _

/-- A place of a key is a ref of the part (R4). -/
theorem placesOf_lt {s : State} {k : Key} {ref : Nat} (h : ref ∈ placesOf s k) : ref < 8256 := by
  have hb := bucketOf_lt s.hashSelect k
  rw [mem_placesOf] at h
  omega

/-! ### The writes that a step is made of

Every happening of the part is a sequence of the writes below. `exec_writes` says so for each command, and
what every step keeps is then a law that each single write keeps. -/

/-- What R1, R11, R12, R76 and R93 ask of one occupied entry. -/
def OccupantLegal (o : Occupant) : Prop := lifeLegal o.life ∧ kindLegal o ∧ creditLegal o

/-- What Table 5-1 asks of one meter profile. -/
def ProfileLegal (p : Profile) : Prop := (1 ≤ p.ceiling ∧ p.ceiling ≤ 16777215) ∧ p.quantum ≠ 0

/-- The stores, the occupancy counts and the hash select stand alike. -/
structure SameTables (s t : State) : Prop where
  entries : t.entries = s.entries := by rfl
  occupancy : t.occupancy = s.occupancy := by rfl
  hashSelect : t.hashSelect = s.hashSelect := by rfl
  domains : t.domains = s.domains := by rfl
  profiles : t.profiles = s.profiles := by rfl
  counterSets : t.counterSets = s.counterSets := by rfl
  lanes : t.lanes = s.lanes := by rfl
  slots : t.slots = s.slots := by rfl
  submission : t.submission = s.submission := by rfl

/-- The entry at `ref` becomes FREE under its generation, and the occupancy counts follow (R13 steps 1, 2
and 4). -/
def vacate (ref : Nat) (s : State) : State :=
  { setEntry ref ⟨(entryAt s ref).generation, none⟩ s with occupancy := vacated ref s.occupancy }

/-- One write of the part. `host` says whether the host's changes of entries and device reset are among the
writes: without them a PINNED entry stays, and is written no further than its meter (R11). -/
inductive Write (host : Bool) : State → State → Prop
  | control {s t : State} (tables : SameTables s t) (legal : SettingsLegal s → SettingsLegal t) :
      Write host s t
  | occupant {s : State} {ref : Nat} {o : Occupant} (o' : Occupant)
      (old : (entryAt s ref).occupant = some o) (key : o'.key = o.key)
      (legal : RecordsLegal s → OccupantLegal o → OccupantLegal o')
      (pinned : host = false → o.life = .pinned →
        { o' with meter := none } = { o with meter := none }) :
      Write host s (setOccupant ref o' s)
  | allocate {s : State} {ref : Nat} (o : Occupant) (absent : searchKey s o.key = none)
      (place : freePlace s o.key = some ref) (legal : RecordsLegal s → OccupantLegal o) :
      Write host s (allocate ref o s)
  | vacate {s : State} {ref : Nat} {o : Occupant} (old : (entryAt s ref).occupant = some o)
      (pinned : host = false → o.life ≠ .pinned) : Write host s (vacate ref s)
  | hash {s : State} (select : Fin 3) (main : s.occupancy.main = 0) (spill : s.occupancy.spill = 0) :
      Write host s { s with hashSelect := select }
  | domain {s : State} (d : Byte) (r : Domain)
      (legal : (domainAt s d).moveLimit ≤ 15 → r.moveLimit ≤ 15) : Write host s (setDomainAt d r s)
  | profile {s : State} (p : ProfileNo) (r : Profile)
      (legal : ProfileLegal (profileAt s p) → ProfileLegal r) : Write host s (setProfileAt p r s)
  | counterSet {s : State} (n : Nat) (c : CounterSet) : Write host s (setCounterSetAt n c s)
  | lane {s : State} (l : LaneNo) (x : Lane)
      (tags : canonical Tag.reset (laneAt s l).tags → canonical Tag.reset x.tags) :
      Write host s (setLane l x s)
  | slot {s : State} (n : SlotNo) (x : Slot) : Write host s (setSlot n x s)
  | word {s : State} (n : Nat) (v : Word16) :
      Write host s { s with submission := setWord n v s.submission }
  | reset {s : State} (allowed : host = true) : Write host s .reset

/-- A sequence of writes. -/
abbrev Writes (host : Bool) : State → State → Prop := Relation.ReflTransGen (Write host)

/-- What each write keeps, a sequence of writes keeps. -/
theorem Writes.keeps {host : Bool} {P : State → Prop}
    (step : ∀ s t, Write host s t → P s → P t) {s t : State} (h : Writes host s t) (hs : P s) : P t := by
  induction h with
  | refl => exact hs
  | tail _ last ih => exact step _ _ last ih

/-! ### Laws of single records -/

/-- The reset values of the settings are legal. -/
theorem settingsLegal_reset : SettingsLegal .reset := by
  constructor <;> simp [State.reset, Config.spillMarkReset]

/-- Records that stand at their reset values are legal. -/
theorem recordsLegal_reset : RecordsLegal .reset := by
  constructor <;> simp [State.reset, domainAt, profileAt, fetch, Domain.reset, Profile.reset]

/-! ### Every write keeps the stores in canonical form -/

/-- A write of a lane whose tags stay canonical keeps every lane's tags canonical. -/
theorem canonical_tags_setLane {s : State} {l : LaneNo} {x : Lane}
    (h : ∀ k : LaneNo, canonical Tag.reset (laneAt s k).tags) (hx : canonical Tag.reset x.tags)
    (k : LaneNo) : canonical Tag.reset (laneAt (setLane l x s) k).tags := by
  rw [laneAt_setLane]
  split
  · exact hx
  · exact h k

theorem write_keeps_stores {host : Bool} (s t : State) (w : Write host s t) (h : StoresCanonical s) :
    StoresCanonical t := by
  cases w with
  | control e _ =>
    obtain ⟨he, -, -, hd, hp, hc, hl, hs, hw⟩ := e
    have tags : ∀ l, laneAt t l = laneAt s l := fun l => by simp only [laneAt, hl]
    constructor
    case tags => intro l; rw [tags]; exact h.tags l
    · rw [he]; exact h.entries
    · rw [hd]; exact h.domains
    · rw [hp]; exact h.profiles
    · rw [hc]; exact h.counterSets
    · rw [hl]; exact h.lanes
    · rw [hs]; exact h.slots
    · rw [hw]; exact h.submission
  | occupant => exact { h with entries := put_canonical _ _ h.entries }
  | allocate => exact { h with entries := put_canonical _ _ h.entries }
  | vacate => exact { h with entries := put_canonical _ _ h.entries }
  | hash => exact { h with }
  | domain => exact { h with domains := put_canonical _ _ h.domains }
  | profile => exact { h with profiles := put_canonical _ _ h.profiles }
  | counterSet => exact { h with counterSets := put_canonical _ _ h.counterSets }
  | lane l x tags =>
    exact { h with
      lanes := put_canonical _ _ h.lanes
      tags := canonical_tags_setLane h.tags (tags (h.tags l)) }
  | slot => exact { h with slots := put_canonical _ _ h.slots }
  | word => exact { h with submission := put_canonical _ _ h.submission }
  | reset => constructor <;> intros <;> exact canonical_nil _

/-! ### Every write keeps settings, records and entries legal -/

theorem write_keeps_settings {host : Bool} (s t : State) (w : Write host s t) (h : SettingsLegal s) :
    SettingsLegal t := by
  cases w with
  | control _ legal => exact legal h
  | reset => exact settingsLegal_reset
  | _ => exact { h with }

/-- A domain write that keeps the move limit in range keeps every record legal. -/
theorem recordsLegal_setDomainAt {s : State} {d : Byte} {r : Domain} (h : RecordsLegal s)
    (hr : r.moveLimit ≤ 15) : RecordsLegal (setDomainAt d r s) :=
  { h with
    moveLimit := fun k => by
      rw [domainAt_setDomainAt]
      split
      · exact hr
      · exact h.moveLimit k }

/-- A profile write that keeps its values in range keeps every record legal. -/
theorem recordsLegal_setProfileAt {s : State} {p : ProfileNo} {r : Profile} (h : RecordsLegal s)
    (hr : ProfileLegal r) : RecordsLegal (setProfileAt p r s) := by
  have legal (k : ProfileNo) : ProfileLegal (profileAt (setProfileAt p r s) k) := by
    rw [profileAt_setProfileAt]
    split
    · exact hr
    · exact ⟨h.ceiling k, h.quantum k⟩
  exact ⟨h.moveLimit, fun k => (legal k).1, fun k => (legal k).2⟩

theorem write_keeps_records {host : Bool} (s t : State) (w : Write host s t) (h : RecordsLegal s) :
    RecordsLegal t := by
  cases w with
  | control e _ =>
    have hd (k : Byte) : domainAt t k = domainAt s k := by simp only [domainAt, e.domains]
    have hp (k : ProfileNo) : profileAt t k = profileAt s k := by simp only [profileAt, e.profiles]
    exact ⟨fun k => by rw [hd]; exact h.moveLimit k, fun k => by rw [hp]; exact h.ceiling k,
      fun k => by rw [hp]; exact h.quantum k⟩
  | domain d _ legal => exact recordsLegal_setDomainAt h (legal (h.moveLimit d))
  | profile p _ legal => exact recordsLegal_setProfileAt h (legal ⟨h.ceiling p, h.quantum p⟩)
  | reset => exact recordsLegal_reset
  | _ => exact { h with }

/-- Entries stay legal when each occupant that stands afterwards is an old one or a legal one. -/
theorem entriesLegal_of_each {s t : State} (h : EntriesLegal s)
    (each : ∀ k o, (entryAt t k).occupant = some o →
      (entryAt s k).occupant = some o ∨ OccupantLegal o) : EntriesLegal t :=
  fun k o ho => (each k o ho).elim (h k o) id

theorem write_keeps_entries {host : Bool} (s t : State) (w : Write host s t)
    (h : RecordsLegal s ∧ EntriesLegal s) : RecordsLegal t ∧ EntriesLegal t := by
  refine ⟨write_keeps_records s t w h.1, ?_⟩
  obtain ⟨hr, he⟩ := h
  refine entriesLegal_of_each he fun k p hp => ?_
  cases w with
  | control e _ =>
    refine .inl ?_
    simpa only [entryAt, e.entries] using hp
  | @occupant ref o o' old key legal pinned =>
    rw [entryAt_setOccupant] at hp
    split at hp
    · injection hp with hp
      exact .inr (hp ▸ legal hr (he _ _ old))
    · exact .inl hp
  | @allocate ref o absent place legal =>
    rw [entryAt_allocate] at hp
    split at hp
    · injection hp with hp
      exact .inr (hp ▸ legal hr)
    · exact .inl hp
  | @vacate ref o old pinned =>
    refine .inl ?_
    rw [show entryAt (vacate ref s) k = _ from entryAt_setEntry _ _ _ _] at hp
    split at hp
    · cases hp
    · exact hp
  | reset => cases hp
  | _ => exact .inl hp

/-! ### Every write keeps the occupancy counts and the places of the keys -/

/-- Of two tests that differ at one listed number alone, the one it passes counts one more. -/
theorem countP_eq_succ {l : List Nat} {p q : Nat → Bool} {r : Nat} (nodup : l.Nodup) (mem : r ∈ l)
    (hp : p r = false) (hq : q r = true) (other : ∀ k, k ≠ r → q k = p k) :
    l.countP q = l.countP p + 1 := by
  have perm := List.perm_cons_erase mem
  rw [perm.countP_eq, perm.countP_eq, List.countP_cons_of_pos hq, List.countP_cons_of_neg (by simp [hp])]
  refine congrArg (· + 1) (List.countP_congr fun k hk => ?_)
  rw [other k fun e => nodup.not_mem_erase (e ▸ hk)]

/-- Two tests that differ at one number count alike on a list without it. -/
theorem countP_eq_of_not_mem {l : List Nat} {p q : Nat → Bool} {r : Nat} (mem : r ∉ l)
    (other : ∀ k, k ≠ r → q k = p k) : l.countP q = l.countP p :=
  List.countP_congr fun k hk => by rw [other k fun e => mem (e ▸ hk)]

/-- The counts stay true when the same entries are occupied. -/
theorem occupancyTrue_of_same {s t : State} (h : OccupancyTrue s) (hc : t.occupancy = s.occupancy)
    (ho : ∀ k, isOccupied t k = isOccupied s k) : OccupancyTrue t := by
  have e : isOccupied t = isOccupied s := funext ho
  constructor
  · rw [hc, e]; exact h.main
  · rw [hc, e]; exact h.spill
  · rw [hc, e]; exact h.free
  · rw [e]; exact h.bound

/-- The counts stay true when a FREE entry of the part becomes occupied (R14). -/
theorem occupancyTrue_of_occupied {s t : State} {ref : Nat} (h : OccupancyTrue s) (lt : ref < 8256)
    (hc : t.occupancy = occupied ref s.occupancy) (was : isOccupied s ref = false)
    (is : isOccupied t ref = true) (other : ∀ k, k ≠ ref → isOccupied t k = isOccupied s k) :
    OccupancyTrue t := by
  have free := countP_eq_succ (l := List.range 8256) (p := fun k => !isOccupied t k)
    (q := fun k => !isOccupied s k) List.nodup_range (List.mem_range.2 lt) (by simp [is]) (by simp [was])
    fun k hk => by simp [other k hk]
  have bound : ∀ k, 8256 ≤ k → isOccupied t k = false := fun k hk => by
    rw [other k (by omega)]; exact h.bound k hk
  obtain ⟨hm, hs, hf, -⟩ := h
  by_cases lo : ref < 8192
  · have main := countP_eq_succ (l := List.range 8192) List.nodup_range (List.mem_range.2 lo) was is other
    have spill := countP_eq_of_not_mem (l := List.range' 8192 64) (r := ref)
      (by rw [List.mem_range'_1]; omega) other
    constructor
    case bound => exact bound
    all_goals rw [hc]; simp only [occupied, lo, if_true]; omega
  · have main := countP_eq_of_not_mem (l := List.range 8192) (r := ref) (by rw [List.mem_range]; omega) other
    have spill := countP_eq_succ (l := List.range' 8192 64) List.nodup_range'
      (List.mem_range'_1.2 ⟨by omega, by omega⟩) was is other
    constructor
    case bound => exact bound
    all_goals rw [hc]; simp only [occupied, lo, if_false]; omega

/-- The counts stay true when an occupied entry becomes FREE (R14). -/
theorem occupancyTrue_of_vacated {s t : State} {ref : Nat} (h : OccupancyTrue s)
    (hc : t.occupancy = vacated ref s.occupancy) (was : isOccupied s ref = true)
    (is : isOccupied t ref = false) (other : ∀ k, k ≠ ref → isOccupied t k = isOccupied s k) :
    OccupancyTrue t := by
  have lt : ref < 8256 := by
    by_contra hge
    simp [h.bound ref (by omega)] at was
  have other' : ∀ k, k ≠ ref → isOccupied s k = isOccupied t k := fun k hk => (other k hk).symm
  have free := countP_eq_succ (l := List.range 8256) (p := fun k => !isOccupied s k)
    (q := fun k => !isOccupied t k) List.nodup_range (List.mem_range.2 lt) (by simp [was]) (by simp [is])
    fun k hk => by simp [other k hk]
  have bound : ∀ k, 8256 ≤ k → isOccupied t k = false := fun k hk => by
    rw [other k (by omega)]; exact h.bound k hk
  obtain ⟨hm, hs, hf, -⟩ := h
  by_cases lo : ref < 8192
  · have main := countP_eq_succ (l := List.range 8192) List.nodup_range (List.mem_range.2 lo) is was other'
    have spill := countP_eq_of_not_mem (l := List.range' 8192 64) (r := ref)
      (by rw [List.mem_range'_1]; omega) other
    constructor
    case bound => exact bound
    all_goals rw [hc]; simp only [vacated, lo, if_true]; omega
  · have main := countP_eq_of_not_mem (l := List.range 8192) (r := ref) (by rw [List.mem_range]; omega) other
    have spill := countP_eq_succ (l := List.range' 8192 64) List.nodup_range'
      (List.mem_range'_1.2 ⟨by omega, by omega⟩) is was other'
    constructor
    case bound => exact bound
    all_goals rw [hc]; simp only [vacated, lo, if_false]; omega

/-- No entry of the reset part is occupied, and its counts say so. -/
theorem occupancyTrue_reset : OccupancyTrue .reset := by
  have free : isOccupied .reset = fun _ => false := rfl
  constructor <;> simp [free] <;> rfl

/-- The reset part holds no key twice and none outside its bucket. -/
theorem keysPlaced_reset : KeysPlaced .reset :=
  ⟨fun _ _ _ _ ho => (nomatch ho), fun _ _ ho => (nomatch ho)⟩

theorem write_keeps_occupancy {host : Bool} (s t : State) (w : Write host s t) (h : OccupancyTrue s) :
    OccupancyTrue t := by
  cases w with
  | control e _ =>
    exact occupancyTrue_of_same h e.occupancy fun k => by simp only [isOccupied, entryAt, e.entries]
  | @occupant ref o o' old key legal pinned =>
    refine occupancyTrue_of_same h rfl fun k => ?_
    simp only [isOccupied, entryAt_setOccupant]
    split
    · next e => simp [e, old]
    · rfl
  | @allocate ref o absent place legal =>
    obtain ⟨mem, free⟩ := freePlace_some place
    refine occupancyTrue_of_occupied h (placesOf_lt mem) rfl (by simp [isOccupied, free])
      (by simp [isOccupied, entryAt_allocate]) fun k hk => ?_
    simp [isOccupied, entryAt_allocate, hk]
  | @vacate ref o old pinned =>
    have read (k : Nat) : entryAt (vacate ref s) k = _ := entryAt_setEntry _ _ _ _
    refine occupancyTrue_of_vacated (ref := ref) h rfl (by simp [isOccupied, old])
      (by simp [isOccupied, read]) fun k hk => ?_
    simp [isOccupied, read, hk]
  | reset => exact occupancyTrue_reset
  | _ => exact { h with }

/-- Keys stay placed when every occupant that stands afterwards has the key of one that stood there. -/
theorem keysPlaced_of_each {s t : State} (h : KeysPlaced s) (hash : t.hashSelect = s.hashSelect)
    (each : ∀ k o, (entryAt t k).occupant = some o →
      ∃ o', (entryAt s k).occupant = some o' ∧ o.key = o'.key) : KeysPlaced t where
  unique r₁ r₂ o₁ o₂ h₁ h₂ e := by
    obtain ⟨p₁, g₁, e₁⟩ := each _ _ h₁
    obtain ⟨p₂, g₂, e₂⟩ := each _ _ h₂
    exact h.unique r₁ r₂ p₁ p₂ g₁ g₂ (by rw [← e₁, ← e₂, e])
  bucket r o ho lt := by
    obtain ⟨p, g, e⟩ := each _ _ ho
    rw [hash, e]
    exact h.bucket r p g lt

/-- No occupied entry anywhere holds a key that a search does not find (R8, R9). -/
theorem key_ne_of_searchKey_none {s : State} {k : Key} (hc : OccupancyTrue s) (h : KeysPlaced s)
    (absent : searchKey s k = none) {ref : Nat} {o : Occupant}
    (ho : (entryAt s ref).occupant = some o) : o.key ≠ k := by
  intro e
  refine searchKey_none absent (mem_placesOf.2 ?_) ho e
  by_cases lo : ref < 8192
  · exact .inl (e ▸ h.bucket ref o ho lo)
  · refine .inr ⟨by omega, ?_⟩
    by_contra hge
    have := hc.bound ref (by omega)
    simp [isOccupied, ho] at this

/-- An allocation for a key that no entry holds keeps the keys placed (R9). -/
theorem keysPlaced_allocate {s : State} {ref : Nat} {o : Occupant} (hc : OccupancyTrue s)
    (h : KeysPlaced s) (absent : searchKey s o.key = none) (place : freePlace s o.key = some ref) :
    KeysPlaced (allocate ref o s) := by
  have old {k : Nat} {p : Occupant} (hp : (entryAt s k).occupant = some p) : p.key ≠ o.key :=
    key_ne_of_searchKey_none hc h absent hp
  have split_at {k : Nat} {p : Occupant} (hp : (entryAt (allocate ref o s) k).occupant = some p) :
      (k = ref ∧ p = o) ∨ (entryAt s k).occupant = some p := by
    rw [entryAt_allocate] at hp
    split at hp
    · next e => exact .inl ⟨e, (Option.some.inj hp).symm⟩
    · exact .inr hp
  constructor
  · intro r₁ r₂ o₁ o₂ h₁ h₂ e
    rcases split_at h₁ with ⟨rfl, rfl⟩ | g₁ <;> rcases split_at h₂ with ⟨rfl, rfl⟩ | g₂
    · rfl
    · exact absurd e.symm (old g₂)
    · exact absurd e (old g₁)
    · exact h.unique r₁ r₂ o₁ o₂ g₁ g₂ e
  · intro r p hp lt
    rcases split_at hp with ⟨rfl, rfl⟩ | g
    · have mem := mem_placesOf.1 (freePlace_some place).1
      exact mem.resolve_right fun hr => by omega
    · exact h.bucket r p g lt

/-- With no main and no spill entry occupied, no entry is (R14, R17). -/
theorem not_occupied_of_empty {s : State} (hc : OccupancyTrue s) (main : s.occupancy.main = 0)
    (spill : s.occupancy.spill = 0) (ref : Nat) : (entryAt s ref).occupant = none := by
  have free : isOccupied s ref = false := by
    have hm := List.countP_eq_zero.1 (hc.main.symm.trans main) ref
    have hs := List.countP_eq_zero.1 (hc.spill.symm.trans spill) ref
    rw [List.mem_range] at hm
    rw [List.mem_range'_1] at hs
    by_cases lo : ref < 8192
    · simpa using hm lo
    · by_cases hi : ref < 8256
      · simpa using hs ⟨by omega, by omega⟩
      · exact hc.bound ref (by omega)
  simpa [isOccupied] using free

theorem write_keeps_keys {host : Bool} (s t : State) (w : Write host s t)
    (h : OccupancyTrue s ∧ KeysPlaced s) : OccupancyTrue t ∧ KeysPlaced t := by
  refine ⟨write_keeps_occupancy s t w h.1, ?_⟩
  obtain ⟨hc, hk⟩ := h
  cases w with
  | control e _ =>
    refine keysPlaced_of_each hk e.hashSelect fun k o ho => ⟨o, ?_, rfl⟩
    simpa only [entryAt, e.entries] using ho
  | @occupant ref o o' old key legal pinned =>
    refine keysPlaced_of_each hk rfl fun k p hp => ?_
    rw [entryAt_setOccupant] at hp
    split at hp
    · next e =>
      injection hp with hp
      exact ⟨o, e ▸ old, hp ▸ key⟩
    · exact ⟨p, hp, rfl⟩
  | allocate o absent place legal => exact keysPlaced_allocate hc hk absent place
  | @vacate ref o old pinned =>
    refine keysPlaced_of_each hk rfl fun k p hp => ?_
    rw [show entryAt (vacate ref s) k = _ from entryAt_setEntry _ _ _ _] at hp
    split at hp
    · cases hp
    · exact ⟨p, hp, rfl⟩
  | hash select main spill =>
    have free := not_occupied_of_empty hc main spill
    exact ⟨fun r _ o _ ho => absurd ((free r).symm.trans ho) (by simp),
      fun r o ho => absurd ((free r).symm.trans ho) (by simp)⟩
  | reset => exact keysPlaced_reset
  | _ => exact { hk with }

/-! ### A PINNED entry under writes that are not the host's -/

/-- The entry at `k` is as `e` was but for its meter, and PINNED. -/
def PinnedAs (k : Nat) (e : Entry) (s : State) : Prop :=
  sameButMeter (entryAt s k) e ∧ ∃ o, (entryAt s k).occupant = some o ∧ o.life = .pinned

/-- Without the host's writes a PINNED entry keeps everything but its meter (R11). -/
theorem write_keeps_pinned {k : Nat} {e : Entry} (s t : State) (w : Write false s t)
    (h : PinnedAs k e s) : PinnedAs k e t := by
  have unmoved (same : entryAt t k = entryAt s k) : PinnedAs k e t := by
    unfold PinnedAs
    rw [same]
    exact h
  obtain ⟨hsame, p, hp, hlife⟩ := h
  cases w with
  | control c _ => exact unmoved (by simp only [entryAt, c.entries])
  | @occupant ref o o' old key legal pinned =>
    by_cases hk : k = ref
    · subst hk
      have read : entryAt (setOccupant k o' s) k = ⟨(entryAt s k).generation, some o'⟩ := by
        rw [entryAt_setOccupant, if_pos rfl]
      have ho : o = p := Option.some.inj (old.symm.trans hp)
      have rest := pinned rfl (ho ▸ hlife)
      have life : o'.life = .pinned := (congrArg Occupant.life rest).trans (ho ▸ hlife)
      refine ⟨⟨by rw [read]; exact hsame.1, ?_⟩, o', by rw [read], life⟩
      rw [read, ← hsame.2, old]
      simp only [Option.map_some, rest]
    · exact unmoved (by rw [entryAt_setOccupant, if_neg hk])
  | @allocate ref o absent place legal =>
    have hk : k ≠ ref := fun hk => by
      have := (freePlace_some place).2
      rw [← hk, hp] at this
      cases this
    exact unmoved (by rw [entryAt_allocate, if_neg hk])
  | @vacate ref o old pinned =>
    have hk : k ≠ ref := fun hk => by
      subst hk
      have ho : o = p := Option.some.inj (old.symm.trans hp)
      exact pinned rfl (ho ▸ hlife)
    exact unmoved (entryAt_setEntry_other _ _ hk)
  | reset allowed => cases allowed
  | _ => exact unmoved rfl

end Sys2Proof.Machine

namespace Sys2Proof.Machine

-- One proof at a time: the whole text then compiles in few threads.
set_option Elab.async false

section
variable {host : Bool}

/-! ### The shared operations as writes -/

/-- A write of settings, flags or counts outside the tables that keeps the settings legal. -/
theorem writes_control {s t : State} (tables : SameTables s t)
    (legal : SettingsLegal s → SettingsLegal t) : Writes host s t := .single (.control tables legal)

/-- The bit of a cause is one of those that stand for a cause (section 11.4). -/
theorem causeWord_masked (c : Cause) : causeWord c &&& ~~~causeMask = 0 := by
  cases c with
  | laneHeld l => revert l; decide
  | _ => decide

theorem writes_raiseCause (c : Cause) (s : State) : Writes host s (raiseCause c s) :=
  writes_control {} fun h => { h with
    irqPending := by
      have hp := h.irqPending
      have hc := causeWord_masked c
      rw [raiseCause_irqPending, BitVec.and_or_distrib_right, hp, hc]
      rfl }

theorem writes_onTableStats (f : TableStats → TableStats) (s : State) :
    Writes host s (onTableStats f s) := writes_control {} fun h => { h with }

theorem writes_setCounterSetAt (n : Nat) (c : CounterSet) (s : State) :
    Writes host s (setCounterSetAt n c s) := .single (.counterSet n c)

theorem writes_setSlot (n : SlotNo) (x : Slot) (s : State) : Writes host s (setSlot n x s) :=
  .single (.slot n x)

/-- A change of a lane keeps its tags in canonical form. -/
def KeepsTags (f : Lane → Lane) : Prop :=
  ∀ x, canonical Tag.reset x.tags → canonical Tag.reset (f x).tags

/-- A change of a lane that leaves its tags keeps them canonical. -/
theorem keepsTags_of_same {f : Lane → Lane} (h : ∀ x, (f x).tags = x.tags) : KeepsTags f :=
  fun x hx => by rw [h]; exact hx

theorem writes_onLane (l : LaneNo) {f : Lane → Lane} (h : KeepsTags f) (s : State) :
    Writes host s (onLane l f s) := .single (.lane l _ (h _))

theorem writes_onLaneStats (l : LaneNo) (f : LaneStats → LaneStats) (s : State) :
    Writes host s (onLaneStats l f s) := 
  writes_onLane (f := fun x => { x with stats := f x.stats }) l (keepsTags_of_same fun _ => rfl) s

/-- A fold of operations that are writes is a sequence of writes. -/
theorem writes_foldl {α : Type} {f : State → α → State} (h : ∀ s a, Writes host s (f s a))
    (l : List α) (s : State) : Writes host s (l.foldl f s) := by
  induction l generalizing s with
  | nil => exact .refl
  | cons a rest ih => exact (h s a).trans (ih _)

theorem writes_onEveryLane {f : Lane → Lane} (h : KeepsTags f) (s : State) :
    Writes host s (onEveryLane f s) := writes_foldl (fun s l => writes_onLane l h s) _ s

theorem writes_setOccupant {s : State} {ref : Nat} {o : Occupant} (o' : Occupant)
    (old : (entryAt s ref).occupant = some o) (key : o'.key = o.key)
    (legal : RecordsLegal s → OccupantLegal o → OccupantLegal o')
    (pinned : host = false → o.life = .pinned → { o' with meter := none } = { o with meter := none }) :
    Writes host s (setOccupant ref o' s) := .single (.occupant o' old key legal pinned)

/-! ### The Counter Pool -/

theorem writes_chargeEntry (ref : Nat) (c : Charge) (s : State) :
    Writes host s (chargeEntry ref c s) := by
  unfold chargeEntry chargeSet
  split
  · exact .refl
  · split
    · exact writes_setCounterSetAt _ _ _
    · exact .refl

theorem writes_countOrphan (s : State) : Writes host s (countOrphan s) := by
  have count : Writes host s { s with orphaned := s.orphaned + 1 } := writes_control {} fun h => { h with }
  unfold countOrphan
  dsimp only
  split
  · exact count.trans (writes_raiseCause _ _)
  · exact count

theorem writes_handOverSetOf (o : Occupant) (s : State) : Writes host s (handOverSetOf o s) := by
  unfold handOverSetOf handOver
  split
  · exact .refl
  · split
    · exact writes_setCounterSetAt _ _ _
    · exact (writes_setCounterSetAt _ _ _).trans (writes_countOrphan _)

/-! ### Retirement and allocation -/

/-- A retirement is writes of the table, the pool and a statistic; of a PINNED entry, the host's alone. -/
theorem writes_retire (ref : Nat) (c : RetireCause) (s : State)
    (pinned : ∀ o, (entryAt s ref).occupant = some o → host = false → o.life ≠ .pinned) :
    Writes host s (retire ref c s) := by
  unfold retire
  split
  · exact .refl
  · next o old =>
    have free : Writes host s (vacate ref s) := .single (.vacate old (pinned o old))
    exact free.trans ((writes_handOverSetOf o _).trans (writes_onTableStats _ _))

/-- The set `n`, if any, ATTACHED to `owner` with zero counts (R103). -/
def attachedTo (set : Option Nat) (owner : Pair) (s : State) : State :=
  match set with
  | none => s
  | some n => setCounterSetAt n ⟨.attached owner, .zero⟩ s

/-- The FREE entry at `ref` allocated to `o` together with its counter set `set`, if it has one. -/
def allocateCounted (ref : Nat) (o : Occupant) (set : Option Nat) (s : State) : State :=
  allocate ref { o with counterSet := set } (attachedTo set ⟨ref, (entryAt s ref).generation + 1⟩ s)

@[simp] theorem entryAt_attachedTo (set : Option Nat) (owner : Pair) (s : State) (k : Nat) :
    entryAt (attachedTo set owner s) k = entryAt s k := by
  cases set <;> rfl

/-- A set attached to an entry just allocated is the set it is allocated with. -/
theorem attachSet_allocate (n ref : Nat) (o : Occupant) (s : State) :
    attachSet n ref (allocate ref o s) = allocateCounted ref o (some n) s := by
  have read : entryAt (allocate ref o s) ref = ⟨(entryAt s ref).generation + 1, some o⟩ := by
    rw [entryAt_allocate, if_pos rfl]
  have ne : (⟨(entryAt s ref).generation + 1, some o⟩ : Entry) ≠ .reset := by simp [Entry.reset]
  unfold attachSet
  rw [read]
  simp only [setOccupant, entryAt_setCounterSetAt, pairAt, read]
  simp only [setEntry, allocate, allocateCounted, attachedTo, setCounterSetAt, put_put _ _ _ ne]
  rfl

/-- A request for an entry just allocated: the pool answers as before the allocation (R103). -/
theorem requestSet_allocate (q : SetRequest) (ref : Nat) {o : Occupant} (s : State)
    (bare : o.counterSet = none) :
    requestSet q ref (allocate ref o s) =
      (allocateCounted ref o (answerRequest q s) s, answerRequest q s) := by
  have answer : answerRequest q (allocate ref o s) = answerRequest q s := by cases q <;> rfl
  have plain : { o with counterSet := none } = o := by rw [← bare]
  unfold requestSet
  rw [answer]
  cases answerRequest q s with
  | none => simp only [allocateCounted, attachedTo, plain]
  | some n => simp only [attachSet_allocate]

theorem writes_attachedTo (set : Option Nat) (owner : Pair) (s : State) :
    Writes host s (attachedTo set owner s) := by
  cases set with
  | none => exact .refl
  | some n => exact writes_setCounterSetAt _ _ _

/-- An allocation, with its set, for a key that no entry holds. -/
theorem writes_allocateCounted {ref : Nat} {o : Occupant} (set : Option Nat) {s : State}
    (absent : searchKey s o.key = none) (place : freePlace s o.key = some ref)
    (legal : RecordsLegal s → OccupantLegal o) : Writes host s (allocateCounted ref o set s) := by
  refine (writes_attachedTo set _ s).trans (.single (.allocate _ ?_ ?_ ?_))
  · cases set <;> exact absent
  · cases set <;> exact place
  · cases set <;> exact fun hr => legal ⟨hr.moveLimit, hr.ceiling, hr.quantum⟩

theorem writes_raiseSpillHigh (before : Occupancy) (s : State) :
    Writes host s (raiseSpillHigh before s) := by
  unfold raiseSpillHigh
  split
  · exact writes_raiseCause _ _
  · exact .refl

/-! ### Meters -/

/-- The meter that a bring-up or a debit works on is that of an occupant, and its profile is as it stands. -/
theorem activeMeter_some {s : State} {ref : Nat} {o : Occupant} {m : Meter} {p : Profile}
    (h : activeMeter s ref = some (o, m, p)) :
    (entryAt s ref).occupant = some o ∧ o.meter = some m ∧ p = profileAt s m.profile := by
  unfold activeMeter at h
  split at h
  · cases h
  · next o' ho =>
    split at h
    · cases h
    · next m' hm =>
      split at h
      · cases h
        exact ⟨ho, hm, rfl⟩
      · cases h

/-- An occupant given a meter of legal credit stays legal. -/
theorem occupantLegal_meter {o : Occupant} {m : Meter} (h : OccupantLegal o)
    (hm : -16777215 ≤ m.credit ∧ m.credit ≤ 16777215) : OccupantLegal { o with meter := some m } :=
  ⟨h.1, h.2.1, fun m' e => by cases e; exact hm⟩

/-- A bring-up under a legal profile keeps a legal credit legal (R91). -/
theorem broughtUp_legal {p : Profile} (now : Time) {m : Meter} (hp : ProfileLegal p)
    (hm : -16777215 ≤ m.credit ∧ m.credit ≤ 16777215) :
    -16777215 ≤ (broughtUp p now m).credit ∧ (broughtUp p now m).credit ≤ 16777215 := by
  obtain ⟨⟨low, high⟩, -⟩ := hp
  have gain : (0 : Int) ≤ ((now - m.stamp).toNat * p.refill.toNat : Nat) := Int.natCast_nonneg _
  simp only [broughtUp]
  omega

/-- A debit keeps a legal credit legal (R93). -/
theorem debited_legal (bytes : Nat) {m : Meter} (hm : -16777215 ≤ m.credit ∧ m.credit ≤ 16777215) :
    -16777215 ≤ (debited bytes m).credit ∧ (debited bytes m).credit ≤ 16777215 := by
  simp only [debited, Config.creditBound]
  omega

/-- A write of the meter of an occupied entry. -/
theorem writes_setMeter {s : State} {ref : Nat} {o : Occupant} {m m' : Meter}
    (old : (entryAt s ref).occupant = some o) (hm : o.meter = some m)
    (legal : RecordsLegal s → -16777215 ≤ m.credit ∧ m.credit ≤ 16777215 →
      -16777215 ≤ m'.credit ∧ m'.credit ≤ 16777215) :
    Writes host s (setOccupant ref { o with meter := some m' } s) :=
  writes_setOccupant _ old rfl
    (fun hr ho => occupantLegal_meter ho (legal hr (ho.2.2 m hm))) fun _ _ => rfl

theorem writes_bringUpEntry (ref : Nat) (s : State) : Writes host s (bringUpEntry ref s) := by
  unfold bringUpEntry
  split
  · exact .refl
  · next o m p h =>
    obtain ⟨old, hm, rfl⟩ := activeMeter_some h
    exact writes_setMeter old hm fun hr => broughtUp_legal _ ⟨hr.ceiling _, hr.quantum _⟩

theorem writes_debitEntry (ref bytes : Nat) (s : State) : Writes host s (debitEntry ref bytes s) := by
  unfold debitEntry
  split
  · exact .refl
  · next o m p h =>
    obtain ⟨old, hm, rfl⟩ := activeMeter_some h
    exact writes_setMeter old hm fun hr hc =>
      debited_legal _ (broughtUp_legal _ ⟨hr.ceiling _, hr.quantum _⟩ hc)

/-- A meter created with a profile has a legal credit (R90). -/
theorem newMeter_legal (p : ProfileNo) {s : State} (h : RecordsLegal s) :
    -16777215 ≤ (newMeter p s).credit ∧ (newMeter p s).credit ≤ 16777215 := by
  obtain ⟨low, high⟩ := h.ceiling p
  simp only [newMeter]
  omega

/-! ### The sweep -/

/-- An occupant given a legal life stays legal; a PINNED one must stay PINNED for its kind. -/
theorem occupantLegal_life {o : Occupant} {l : Life} (h : OccupantLegal o) (hl : lifeLegal l)
    (pinned : o.life = .pinned → l = .pinned) : OccupantLegal { o with life := l } := by
  obtain ⟨-, hk, hc⟩ := h
  refine ⟨hl, ?_, hc⟩
  unfold kindLegal at hk ⊢
  dsimp only at hk ⊢
  split
  · next e => rw [e] at hk; exact hk
  · next e =>
    rw [e] at hk
    exact ⟨hk.1, pinned hk.2.1, hk.2.2⟩

/-- The life of a learned entry written, in a state whose entry it is. -/
theorem writes_setLife {s : State} {ref : Nat} {o : Occupant} (l : Life)
    (old : (entryAt s ref).occupant = some o) (learned : o.life ≠ .pinned)
    (legal : lifeLegal o.life → lifeLegal l) :
    Writes host s (setOccupant ref { o with life := l } s) :=
  writes_setOccupant _ old rfl
    (fun _ ho => occupantLegal_life ho (legal ho.1) fun e => absurd e learned)
    fun _ e => absurd e learned

/-- The fields a visit leaves a LIVE entry are legal in LIVE and in STALE (Table 4-2). -/
theorem visitedAging_legal {a : Aging} (h : a.moves ≤ 15) :
    (visitedAging a).moves ≤ 15 ∧ (visitedAging a).hit = false := by
  simp only [visitedAging]
  split <;> simp [h]

theorem writes_visit (ref : Nat) (s : State) : Writes host s (visit ref s) := by
  unfold visit
  split
  · exact .refl
  · next o old =>
    have learned {l : Life} (e : o.life = l) (hl : l ≠ .pinned) : o.life ≠ .pinned := e ▸ hl
    have gone (hl : o.life ≠ .pinned) :
        ∀ p, (entryAt s ref).occupant = some p → host = false → p.life ≠ .pinned := by
      intro p hp _
      rw [old] at hp
      exact Option.some.inj hp ▸ hl
    split
    · next a origin e =>
      split
      · exact writes_setLife _ old (learned e (by simp)) fun h => by rw [e] at h; exact h
      · exact writes_retire _ _ _ (gone (learned e (by simp)))
    · next a e =>
      split
      · exact writes_setLife _ old (learned e (by simp)) fun h => by
          rw [e] at h; exact (visitedAging_legal h).1
      · exact writes_setLife _ old (learned e (by simp)) fun h => by
          rw [e] at h; exact visitedAging_legal h
    · next a e => exact writes_retire _ _ _ (gone (learned e (by simp)))
    · exact .refl

end

end Sys2Proof.Machine

namespace Sys2Proof.Machine

-- One proof at a time: the whole text then compiles in few threads.
set_option Elab.async false

/-! ### What a retirement does -/

theorem retire_eq {s : State} {ref : Nat} {o : Occupant} (c : RetireCause)
    (old : (entryAt s ref).occupant = some o) :
    retire ref c s = onTableStats (countRetirement c) (handOverSetOf o (vacate ref s)) := by
  unfold retire
  rw [old]
  rfl

theorem handOverSetOf_none {o : Occupant} (s : State) (h : o.counterSet = none) :
    handOverSetOf o s = s := by
  unfold handOverSetOf
  rw [h]

theorem handOverSetOf_some {o : Occupant} {n : Nat} (s : State) (h : o.counterSet = some n) :
    handOverSetOf o s = handOver n o.key s := by
  unfold handOverSetOf
  rw [h]

theorem handOver_reclaim (n : Nat) (key : Key) {s : State} (h : s.autoReclaim = true) :
    handOver n key s = freeSet n s := by
  unfold handOver
  rw [if_pos h]

/-- The bit that one more orphan raises: ORPHANS_HIGH's when it brings the count to the watermark (R107). -/
def orphanBit (s : State) : Word16 :=
  if s.orphanMark ≠ 0 ∧ s.orphaned + 1 = s.orphanMark then 0x0800#16 else 0#16

theorem countOrphan_eq (s : State) :
    countOrphan s =
      { s with orphaned := s.orphaned + 1, irqPending := s.irqPending ||| orphanBit s } := by
  unfold countOrphan orphanBit
  dsimp only
  split
  · rfl
  · rw [BitVec.or_zero]

theorem handOver_orphan (n : Nat) (key : Key) {s : State} (h : s.autoReclaim = false) :
    handOver n key s =
      { setCounterSetAt n ⟨.orphaned key, (counterSetAt s n).counts⟩ s with
        orphaned := s.orphaned + 1, irqPending := s.irqPending ||| orphanBit s } := by
  unfold handOver
  rw [if_neg (by simp [h]), countOrphan_eq]
  rfl

/-- Whether an occupied entry names a set. -/
theorem namesSet_of_occupant {s : State} {ref : Nat} {o : Occupant}
    (old : (entryAt s ref).occupant = some o) : namesSet s ref = o.counterSet.isSome := by
  simp only [namesSet, old]

/-- Auto-reclaim leaves no orphan, and so raises nothing. -/
theorem orphansBit_of_reclaim {s : State} (refs : List Nat) (h : s.autoReclaim = true) :
    orphansBit refs s = 0#16 := by simp [orphansBit, h]

/-- Retiring entries without sets raises nothing. -/
theorem orphansBit_of_none {s : State} {refs : List Nat} (h : refs.countP (namesSet s) = 0) :
    orphansBit refs s = 0#16 := by
  unfold orphansBit
  rw [h]
  exact if_neg (by omega)

/-- Retiring one entry with a set raises what its orphan raises. -/
theorem orphansBit_of_one {s : State} {ref : Nat} (h : s.autoReclaim = false)
    (names : namesSet s ref = true) : orphansBit [ref] s = orphanBit s := by
  simp only [orphansBit, orphanBit, h, true_and, List.countP_singleton, names, if_true]
  refine if_congr ?_ rfl rfl
  omega

/-- A retirement's whole effect but for the entries, the sets and the counts, which `retiredAll_retire`
gives (R13, R107). -/
theorem retire_frame {s : State} {ref : Nat} {o : Occupant} (c : RetireCause)
    (old : (entryAt s ref).occupant = some o) :
    { retire ref c s with
      entries := s.entries, counterSets := s.counterSets, occupancy := s.occupancy,
      orphaned := s.orphaned } =
      { s with
        tableStats := countRetirement c s.tableStats
        irqPending := s.irqPending ||| orphansBit [ref] s } := by
  have names := namesSet_of_occupant old
  rw [retire_eq c old]
  cases hset : o.counterSet with
  | none =>
    rw [handOverSetOf_none _ hset, orphansBit_of_none (by simp [names, hset]), BitVec.or_zero]
    rfl
  | some n =>
    rw [handOverSetOf_some _ hset]
    by_cases hr : s.autoReclaim = true
    · rw [handOver_reclaim n _ (s := vacate ref s) hr, orphansBit_of_reclaim _ hr, BitVec.or_zero]
      rfl
    · rw [Bool.not_eq_true] at hr
      rw [handOver_orphan n _ (s := vacate ref s) hr, orphansBit_of_one hr (by simp [names, hset])]
      rfl

/-- What a retirement does to the counter sets (R106). -/
theorem counterSetAt_retire {s : State} {ref : Nat} {o : Occupant} (c : RetireCause)
    (old : (entryAt s ref).occupant = some o) (n : Nat) :
    counterSetAt (retire ref c s) n =
      if o.counterSet = some n then
        if s.autoReclaim then .reset else ⟨.orphaned o.key, (counterSetAt s n).counts⟩
      else counterSetAt s n := by
  rw [retire_eq c old, counterSetAt_onTableStats]
  cases hset : o.counterSet with
  | none => rw [handOverSetOf_none _ hset]; rfl
  | some m =>
    rw [handOverSetOf_some _ hset]
    simp only [Option.some.injEq, eq_comm (a := m)]
    by_cases hr : s.autoReclaim = true
    · rw [handOver_reclaim m _ (s := vacate ref s) hr, if_pos hr]
      exact counterSetAt_setCounterSetAt m n .reset (vacate ref s)
    · rw [handOver_orphan m _ (s := vacate ref s) (Bool.not_eq_true _ ▸ hr), if_neg hr]
      refine (counterSetAt_setCounterSetAt m n ⟨.orphaned o.key, (counterSetAt s m).counts⟩
        (vacate ref s)).trans ?_
      by_cases hn : n = m
      · subst hn; rfl
      · rw [if_neg hn, if_neg hn]; rfl

/-- What a retirement does to the occupancy and the orphaned counts (R14, R107). -/
theorem counts_retire {s : State} {ref : Nat} {o : Occupant} (c : RetireCause)
    (old : (entryAt s ref).occupant = some o) :
    (retire ref c s).occupancy = vacated ref s.occupancy ∧
    (retire ref c s).orphaned =
      s.orphaned + if s.autoReclaim then 0 else [ref].countP (namesSet s) := by
  have names := namesSet_of_occupant old
  rw [retire_eq c old, onTableStats_occupancy, onTableStats_orphaned, List.countP_singleton, names]
  cases hset : o.counterSet with
  | none =>
    rw [handOverSetOf_none _ hset]
    exact ⟨rfl, by simp [vacate]⟩
  | some n =>
    rw [handOverSetOf_some _ hset]
    by_cases hr : s.autoReclaim = true
    · rw [handOver_reclaim n _ (s := vacate ref s) hr, if_pos hr]
      exact ⟨rfl, rfl⟩
    · rw [handOver_orphan n _ (s := vacate ref s) (Bool.not_eq_true _ ▸ hr), if_neg hr]
      exact ⟨rfl, rfl⟩

/-- The set an occupied entry names is the one its occupant names. -/
theorem namesSet_iff_of_occupant {s : State} {ref n : Nat} {o o' : Occupant}
    (old : (entryAt s ref).occupant = some o) :
    NamesSet s ref o' n ↔ o' = o ∧ o.counterSet = some n := by
  unfold NamesSet
  rw [old, Option.some.injEq]
  constructor
  · rintro ⟨rfl, h⟩; exact ⟨rfl, h⟩
  · rintro ⟨rfl, h⟩; exact ⟨rfl, h⟩

/-- One retirement, as R13, R14, R106 and R107 give it. -/
theorem retiredAll_retire {s : State} {ref : Nat} {o : Occupant} (c : RetireCause)
    (old : (entryAt s ref).occupant = some o) : RetiredAll [ref] s (retire ref c s) := by
  have sets := counterSetAt_retire c old
  constructor
  · intro r hr
    obtain rfl := List.mem_singleton.1 hr
    rw [entryAt_retire c old, if_pos rfl]
  · rw [(counts_retire c old).1]
    by_cases lo : ref < 8192
    · simp [vacated, lo]
    · simp [vacated, lo, Nat.le_of_not_lt lo]
  · intro n hn
    rw [sets, if_neg]
    exact fun hset => hn ref List.mem_cons_self o ⟨old, hset⟩
  · intro hr r mem o' n names
    obtain rfl := List.mem_singleton.1 mem
    rw [sets, if_pos ((namesSet_iff_of_occupant old).1 names).2, if_pos hr]
  · intro hr r mem o' n names _
    obtain rfl := List.mem_singleton.1 mem
    obtain ⟨rfl, hset⟩ := (namesSet_iff_of_occupant old).1 names
    rw [sets, if_pos hset, if_neg (by simp [hr])]
  · exact (counts_retire c old).2

end Sys2Proof.Machine

namespace Sys2Proof.Machine

-- One proof at a time: the whole text then compiles in few threads.
set_option Elab.async false

/-! ### What a sweep visit leaves alone -/

/-- A visit touches entries, sets, counts, statistics and the pending set alone. -/
theorem visit_frame (ref : Nat) (s : State) :
    { visit ref s with
      entries := s.entries, counterSets := s.counterSets, occupancy := s.occupancy,
      orphaned := s.orphaned, tableStats := s.tableStats, irqPending := s.irqPending } = s := by
  have gone {o : Occupant} (c : RetireCause) (old : (entryAt s ref).occupant = some o) :
      { retire ref c s with
        entries := s.entries, counterSets := s.counterSets, occupancy := s.occupancy,
        orphaned := s.orphaned, tableStats := s.tableStats, irqPending := s.irqPending } = s :=
    congrArg (fun t : State => { t with tableStats := s.tableStats, irqPending := s.irqPending })
      (retire_frame c old)
  unfold visit
  split
  · rfl
  · next o old =>
    split
    · split
      · rfl
      · exact gone _ old
    · split <;> rfl
    · exact gone _ old
    · rfl

/-- The visits of a run of refs leave the sweep and the engine as they are. -/
theorem visits_keep_sweep (refs : List Nat) (s : State) :
    let t := refs.foldl (fun t ref => visit ref t) s
    t.engine = s.engine ∧ t.sweepCursor = s.sweepCursor ∧ t.sweepRunning = s.sweepRunning := by
  induction refs generalizing s with
  | nil => exact ⟨rfl, rfl, rfl⟩
  | cons r rest ih =>
    obtain ⟨engine, cursor, running⟩ := ih (visit r s)
    have frame := visit_frame r s
    exact ⟨engine.trans (congrArg State.engine frame :), cursor.trans (congrArg State.sweepCursor frame :),
      running.trans (congrArg State.sweepRunning frame :)⟩

section
variable {host : Bool}

/-- The engine and the pointer written; a sweep step is granted while the sweep is RUNNING alone (R21). -/
theorem writes_grantTo (k : Fin 10) {e : Engine} {s : State}
    (h : e = .sweepStep → s.sweepRunning = true) : Writes host s (grantTo k e s) :=
  writes_control {} fun hs => { hs with sweeping := h }

/-- The engine becomes idle, or goes on to a part of an operation that is no sweep step. -/
theorem writes_engine {e : Engine} (s : State) (h : e ≠ .sweepStep) :
    Writes host s { s with engine := e } :=
  writes_control {} fun hs => { hs with sweeping := fun he => absurd he h }

theorem writes_finishSweep (s : State) : Writes host s (finishSweep s) := by
  unfold finishSweep
  split
  · next granted =>
    have visits : Writes host s (visitStep s) := writes_foldl (fun s r => writes_visit r s) _ s
    have engine : (visitStep s).engine = .sweepStep := (visits_keep_sweep _ s).1.trans granted
    refine visits.trans (writes_control ?_ fun h => ?_)
    · unfold advanceSweep
      split <;> exact {}
    · have running := h.sweeping engine
      unfold advanceSweep
      split
      · next more =>
        simp only [Config.walkSteps] at more
        exact { h with
          sweepCursor := Nat.le_of_lt_succ more
          sweepIdle := fun idle => absurd (running.symm.trans idle) (by decide)
          sweeping := fun e => nomatch e }
      · exact { h with
          sweepCursor := Nat.zero_le _
          sweepIdle := fun _ => rfl
          sweeping := fun e => nomatch e }
  · exact .refl

/-! ### The resolve -/

/-- The source heard keeps its fields legal (R44). -/
theorem heard_legal {l : Life} (h : lifeLegal l) : lifeLegal (heard l) := by
  cases l with
  | stale a => exact h.1
  | _ => exact h

/-- A PINNED source stays as it is when heard, and no other becomes PINNED. -/
theorem heard_pinned {l : Life} : heard l = .pinned ↔ l = .pinned := by
  cases l <;> simp [heard]

/-- A counted move keeps the move count within its values (R12). -/
theorem movedAging_legal (limit : Nat) (a : Aging) : (movedAging limit a).1.moves ≤ 15 := by
  simp only [movedAging, satAdd, Config.movesTop]
  omega

/-- A station homed at a lane is legal when its address is a unicast one. -/
theorem occupantLegal_homed {o : Occupant} {l : LaneNo} {life : Life} (h : OccupantLegal o)
    (unicast : addressClass o.key.address = .unicast) (legal : lifeLegal life) :
    OccupantLegal { o with place := .unicast l, life := life } :=
  ⟨legal, unicast, h.2.2⟩

theorem writes_rehome {ref : Nat} {o : Occupant} {s : State} (a : Aging) (l : LaneNo) (limit : Nat)
    (old : (entryAt s ref).occupant = some o) (unicast : addressClass o.key.address = .unicast)
    (learned : o.life ≠ .pinned) : Writes host s (rehome ref o a l limit s) := by
  have moved : Writes host s
      (setOccupant ref { o with place := .unicast l, life := .live (movedAging limit a).1 } s) :=
    writes_setOccupant _ old rfl
      (fun _ ho => occupantLegal_homed ho unicast (movedAging_legal limit a))
      fun _ e => absurd e learned
  unfold rehome
  dsimp only
  split
  · exact moved.trans ((writes_onLaneStats _ _ _).trans
      ((writes_onTableStats _ _).trans (writes_raiseCause _ _)))
  · exact moved.trans (writes_onLaneStats _ _ _)

theorem writes_homeTest {ref : Nat} {o : Occupant} {s : State} (i : ResolveInput)
    (old : (entryAt s ref).occupant = some o) (unicast : addressClass o.key.address = .unicast) :
    Writes host s (homeTest ref o i s).1 := by
  unfold homeTest
  split
  · exact .refl
  · split
    · exact .refl
    · next e =>
      have learned : o.life ≠ .pinned := by simp [e]
      exact writes_setOccupant _ old rfl (fun _ ho => occupantLegal_homed ho unicast ho.1)
        fun _ e => absurd e learned
    all_goals
      next e =>
      split
      · exact .refl
      · exact writes_rehome _ _ _ old unicast (by simp [e])

/-- A pause demand leaves the tags. -/
theorem pauseDemand_tags (quantum : Word16) (x : Lane) : (pauseDemand quantum x).tags = x.tags := by
  unfold pauseDemand
  split
  · rfl
  · split
    · rfl
    · split <;> rfl

theorem writes_applyMeter (ref : Nat) (l : LaneNo) (s : State) :
    Writes host s (applyMeter ref l s).1 := by
  unfold applyMeter
  split
  · exact .refl
  · have bring := writes_bringUpEntry (host := host) ref s
    dsimp only
    split
    · exact bring
    · split
      · exact bring.trans (writes_chargeEntry _ _ _)
      · exact bring.trans (writes_onLane _ (keepsTags_of_same (pauseDemand_tags _)) _)

theorem writes_knownSource {ref : Nat} {o : Occupant} {s : State} (i : ResolveInput)
    (old : (entryAt s ref).occupant = some o) (unicast : addressClass o.key.address = .unicast) :
    Writes host s (knownSource ref o i s).1 := by
  have hear : Writes host s (setOccupant ref { o with life := heard o.life } s) :=
    writes_setOccupant _ old rfl
      (fun _ ho => occupantLegal_life ho (heard_legal ho.1) fun e => heard_pinned.2 e)
      fun _ e => by rw [heard_pinned.2 e, e]
  have read : (entryAt (setOccupant ref { o with life := heard o.life } s) ref).occupant =
      some { o with life := heard o.life } := by rw [entryAt_setOccupant, if_pos rfl]
  have home := writes_homeTest (host := host) i read unicast
  unfold knownSource
  dsimp only
  split
  · exact hear
  · split
    · next e => rw [e] at home; exact hear.trans home
    · next e => rw [e] at home; exact hear.trans (home.trans (writes_applyMeter _ _ _))

/-- A source stage that finds no source changes nothing, and its search found no entry (R43). -/
theorem sourceStage_none {i : ResolveInput} {s : State} (h : (sourceStage i s).2.1 = none) :
    (sourceStage i s) = (s, none, none) ∧ searchKey s ⟨i.domain, i.source⟩ = none := by
  unfold sourceStage at h ⊢
  split at h
  · next e => simp [e]
  · next ref e =>
    obtain ⟨-, o, ho, -⟩ := searchKey_some e
    rw [ho] at h
    cases h

theorem writes_sourceStage {i : ResolveInput} (s : State)
    (unicast : addressClass i.source = .unicast) : Writes host s (sourceStage i s).1 := by
  unfold sourceStage
  split
  · exact .refl
  · next ref e =>
    obtain ⟨-, o, ho, hk⟩ := searchKey_some e
    rw [ho]
    exact writes_knownSource i ho (by rw [hk]; exact unicast)

/-- The pool's answer to an allocation's auto-count (R35). -/
def autoSet (i : ResolveInput) (s : State) : Option Nat :=
  if i.copy.autoCount then lowestFreeSet s else none

/-- A learned entry is allocated together with its set (R59). -/
theorem autoCount_allocate (i : ResolveInput) (ref : Nat) (s : State) :
    autoCount i ref (allocate ref (learnedOccupant i s) s) =
      allocateCounted ref (learnedOccupant i s) (autoSet i s) s := by
  unfold autoCount autoSet
  split
  · rw [requestSet_allocate _ _ _ rfl]
    rfl
  · rfl

/-- A learned entry is legal (R59, R90). -/
theorem learnedOccupant_legal {i : ResolveInput} {s : State} (h : RecordsLegal s)
    (unicast : addressClass i.source = .unicast) : OccupantLegal (learnedOccupant i s) := by
  refine ⟨⟨rfl, rfl⟩, unicast, fun m hm => ?_⟩
  obtain ⟨p, -, rfl⟩ := Option.map_eq_some_iff.1 hm
  exact newMeter_legal p h

theorem writes_learnFailure (i : ResolveInput) (s : State) : Writes host s (learnFailure i s) :=
  (writes_onTableStats _ s).trans ((writes_onLaneStats _ _ _).trans (writes_raiseCause _ _))

theorem writes_learn {i : ResolveInput} {s : State} (unicast : addressClass i.source = .unicast)
    (absent : searchKey s ⟨i.domain, i.source⟩ = none) : Writes host s (learn i s).1 := by
  unfold learn
  split
  · exact writes_learnFailure i s
  · next ref place =>
    unfold learnAt
    dsimp only
    rw [autoCount_allocate]
    have placed : Writes host s (allocateCounted ref (learnedOccupant i s) (autoSet i s) s) :=
      writes_allocateCounted (o := learnedOccupant i s) _ absent place
        fun hr => learnedOccupant_legal hr unicast
    exact placed.trans ((writes_onTableStats _ _).trans (writes_onLaneStats _ _ _))

theorem writes_deliverAndLearn {i : ResolveInput} {source : Option Pair} {s : State}
    (unicast : addressClass i.source = .unicast)
    (absent : source = none → searchKey s ⟨i.domain, i.source⟩ = none) :
    Writes host s (deliverAndLearn i source s).1 := by
  unfold deliverAndLearn
  dsimp only
  split
  · next due =>
    have unknown : source = none := by
      unfold learningDue at due
      simp only [Bool.and_eq_true, Option.isNone_iff_eq_none] at due
      exact due.1.1.1
    exact writes_learn unicast (absent unknown)
  · split <;> exact .refl

/-- A resolve that passes the gate is of a unicast source (R42). -/
theorem unicast_of_gateChecks {i : ResolveInput} (h : gateChecks i = none) :
    addressClass i.source = .unicast := by
  by_contra hne
  unfold gateChecks at h
  rw [if_pos hne] at h
  split at h
  · cases h
  · split at h <;> cases h

theorem writes_resolveStages (i : ResolveInput) (s : State) :
    Writes host s (resolveStages i s).1 := by
  unfold resolveStages
  split
  · exact .refl
  · next pass =>
    have unicast := unicast_of_gateChecks pass
    have stage := writes_sourceStage (host := host) s unicast
    split
    · next e => rw [e] at stage; exact stage
    · next t source e =>
      rw [e] at stage
      refine stage.trans (writes_deliverAndLearn unicast fun unknown => ?_)
      obtain ⟨same, absent⟩ := sourceStage_none (i := i) (s := s) (by rw [e]; exact unknown)
      rw [e] at same
      cases same
      exact absent

/-- Taking the head item in hand leaves the tags. -/
theorem takeInHand_tags (x : Lane) : (takeInHand x).tags = x.tags := by
  unfold takeInHand
  split <;> rfl

theorem writes_grantResolve (s : State) : Writes host s (grantResolve s) := by
  unfold grantResolve
  split
  · exact .refl
  · exact (writes_grantTo _ (by nofun)).trans
      (writes_onLane _ (keepsTags_of_same takeInHand_tags) _)

theorem writes_performResolve (s : State) : Writes host s (performResolve s) := by
  unfold performResolve
  split
  · exact (writes_resolveStages _ s).trans (writes_engine _ (by nofun))
  · exact .refl

/-- A write of one tag keeps the tags canonical. -/
theorem canonical_setTag {t : TagNo} {v : Tag} {x : Lane} (h : canonical Tag.reset x.tags) :
    canonical Tag.reset (setTag t v x).tags := put_canonical _ _ h

theorem keepsTags_takeVerdict (t : TagNo) (r : ResolveResult) (now : Time) :
    KeepsTags (takeVerdict t r now) := by
  intro x h
  unfold takeVerdict
  split
  · exact h
  · unfold actOnVerdict
    dsimp only [sendOn]
    split <;> exact canonical_setTag h

theorem writes_closeResolve (s : State) : Writes host s (closeResolve s) := by
  unfold closeResolve
  split
  · exact (writes_engine s (by nofun)).trans
      ((writes_onLane _ (keepsTags_takeVerdict _ _ _) _).trans (writes_raiseSpillHigh _ _))
  · exact .refl

theorem writes_finishResolve (s : State) : Writes host s (finishResolve s) :=
  (writes_performResolve s).trans (writes_closeResolve _)

/-! ### The settle operation -/

theorem writes_confirmOrReject (i : SettleInput) (ref : Nat) (s : State) :
    Writes host s (confirmOrReject i ref s) := by
  unfold confirmOrReject
  split
  · exact .refl
  · next o old =>
    split
    · next a origin e =>
      have learned : o.life ≠ .pinned := by simp [e]
      split
      · exact writes_setLife _ old learned fun h => by
          rw [e] at h
          exact h.1.le.trans (Nat.zero_le _)
      · split
        · refine writes_retire _ _ _ fun p hp _ => ?_
          rw [old] at hp
          exact Option.some.inj hp ▸ learned
        · exact .refl
    · exact .refl

theorem writes_settleSource (i : SettleInput) (ref : Nat) (s : State) :
    Writes host s (settleSource i ref s) :=
  (writes_chargeEntry _ _ s).trans ((writes_debitEntry _ _ _).trans (writes_confirmOrReject _ _ _))

theorem writes_settlePart (p : Option Pair) {work : Nat → State → State}
    (h : ∀ ref s, Writes host s (work ref s)) (s : State) : Writes host s (settlePart p work s).1 := by
  unfold settlePart
  split
  · exact .refl
  · split
    · exact h _ _
    · exact .refl

theorem writes_settleDestination (i : SettleInput) (ref : Nat) (s : State) :
    Writes host s (settleDestination i ref s) := by
  unfold settleDestination
  split
  · exact writes_chargeEntry _ _ _
  · exact .refl

theorem writes_settleWork (i : SettleInput) (s : State) : Writes host s (settleWork i s) := by
  have parts := (writes_settlePart (host := host) i.record.source (writes_settleSource i) s).trans
    (writes_settlePart i.record.destination (writes_settleDestination i) _)
  unfold settleWork
  dsimp only
  split
  · exact parts.trans (writes_onLaneStats _ _ _)
  · exact parts

theorem writes_grantSettle (s : State) : Writes host s (grantSettle s) := by
  unfold grantSettle
  split
  · exact .refl
  · exact (writes_grantTo _ (by nofun)).trans
      (writes_onLane _ (keepsTags_of_same takeInHand_tags) _)

theorem keepsTags_takeSettled (t : TagNo) : KeepsTags (takeSettled t) := by
  intro x h
  unfold takeSettled
  split
  · exact h
  · exact canonical_setTag (t := t) (v := .free false) h

theorem writes_performSettle (s : State) : Writes host s (performSettle s) := by
  unfold performSettle
  split
  · exact (writes_settleWork _ s).trans (writes_engine _ (by nofun))
  · exact .refl

theorem writes_finishSettle (s : State) : Writes host s (finishSettle s) := by
  refine (writes_performSettle s).trans ?_
  unfold finishSettle closeSettle
  split
  · exact (writes_engine _ (by nofun)).trans (writes_onLane _ (keepsTags_takeSettled _) _)
  · exact .refl

end

end Sys2Proof.Machine

namespace Sys2Proof.Machine

-- One proof at a time: the whole text then compiles in few threads.
set_option Elab.async false

section
variable {host : Bool}

/-! ### The Command Unit -/

/-- A write of the submission order, the walk and the submit status, which no law of the settings names. -/
theorem writes_bookkeeping (order : List SlotNo) (walk : Option Walk) (status : SubmitStatus)
    (s : State) : Writes host s { s with order := order, walk := walk, submitStatus := status } :=
  writes_control {} fun h => { h with }

theorem writes_makeDone (n : SlotNo) (b : Block) (st : Status) (values : List Word16) (s : State) :
    Writes host s (makeDone n b st values s) := (writes_setSlot _ _ s).trans (writes_raiseCause _ _)

theorem writes_complete (n : SlotNo) (b : Block) (st : Status) (values : List Word16) (s : State) :
    Writes host s (complete n b st values s) :=
  (writes_makeDone n b st values s).trans (writes_bookkeeping _ none _ _)

theorem writes_performRunning (c : Byte) {work : Block → State → Performed}
    (h : ∀ b s, Writes host s (work b s).1) (s : State) : Writes host s (performRunning c work s) := by
  unfold performRunning
  split
  · exact .refl
  · next n b _ => exact (h b s).trans (writes_complete _ _ _ _ _)

/-- What a command answers, when its change is a sequence of writes (R181). -/
theorem writes_of_act {f : State → State} {s t : State} (h : Writes host s (f s))
    (e : act f s = .next t) : Writes host s t := by
  unfold act at e
  cases e
  split
  · exact .refl
  · exact h

theorem writes_directCommand {c : Byte} {work : Block → State → Performed} {s t : State}
    (h : ∀ b s, Writes host s (work b s).1) (e : directCommand c work s = .next t) : Writes host s t :=
  writes_of_act (writes_performRunning c h s) e

theorem writes_operationParts {offered : State → Bool} {grant finish : State → State} {part : OpPart}
    {s t : State} (hg : ∀ s, offered s = true → Writes host s (grant s))
    (hf : ∀ s, Writes host s (finish s))
    (e : operationParts offered grant finish part s = .next t) : Writes host s t := by
  cases part with
  | whole =>
    refine writes_of_act ?_ e
    split
    · next ho => exact (hg s ho).trans (hf _)
    · exact .refl
  | grant =>
    refine writes_of_act ?_ e
    split
    · next ho => exact hg s ho
    · exact .refl
  | finish => exact writes_of_act (hf s) e

theorem writes_commandOperation {c : Byte} {work : State → State} {part : OpPart} {s t : State}
    (h : ∀ s, Writes host s (work s)) (e : commandOperation c work part s = .next t) :
    Writes host s t := by
  refine writes_operationParts (fun s _ => writes_grantTo _ (by nofun)) (fun s => ?_) e
  unfold finishCommand
  split
  · exact (writes_engine s (by nofun)).trans (h _)
  · exact .refl

theorem writes_tableCommand {c : Byte} {work : Block → State → Performed} {part : OpPart} {s t : State}
    (h : ∀ b s, Writes host s (work b s).1) (e : tableCommand c work part s = .next t) :
    Writes host s t := writes_commandOperation (writes_performRunning c h) e

theorem writes_startSlot (n : SlotNo) (b : Block) (s : State) : Writes host s (startSlot n b s) := by
  have running := writes_setSlot (host := host) n (.running b) s
  unfold startSlot
  split
  · exact running.trans (writes_bookkeeping _ (if isWalkCode (codeOf b) then _ else none) _ _)
  · split
    · exact running
    · exact writes_complete _ _ _ _ _

theorem writes_commandStart (s : State) : Writes host s (commandStart s) := by
  unfold commandStart
  split
  · next n rest _ _ =>
    split
    · exact (writes_bookkeeping rest _ _ s).trans (writes_startSlot _ _ _)
    · exact .refl
  · exact .refl

theorem writes_submitCommand (s : State) : Writes host s (submitCommand s) := by
  unfold submitCommand
  split
  · exact writes_bookkeeping _ _ .full s
  · next n _ _ =>
    exact (writes_setSlot n (.pending s.submission) s).trans
      (writes_bookkeeping (s.order ++ [n]) _ (.slot n) _)

theorem writes_writeRetire (value : Word16) (s : State) : Writes host s (writeRetire value s) := by
  unfold writeRetire retireSlot
  split
  · exact .refl
  · split
    · exact writes_setSlot _ _ _
    · exact .refl

theorem writes_abortWalk (n : SlotNo) (b : Block) (w : Walk) (s : State) :
    Writes host s (abortWalk n b w s) := by
  unfold abortWalk
  split
  · exact writes_bookkeeping _ (some { w with aborted := true }) _ s
  · exact writes_complete _ _ _ _ _

theorem writes_abortSlot (n : SlotNo) (s : State) : Writes host s (abortSlot n s) := by
  unfold abortSlot
  split
  · exact (writes_bookkeeping (s.order.filter (· != n)) _ _ s).trans (writes_makeDone _ _ _ _ _)
  · split
    · split
      · exact writes_abortWalk _ _ _ _
      · exact .refl
    · exact .refl
  · exact .refl
  · exact .refl

theorem writes_writeAbort (value : Word16) (s : State) : Writes host s (writeAbort value s) := by
  unfold writeAbort
  split
  · exact .refl
  · exact writes_abortSlot _ _

/-! ### The entry commands -/

/-- The kind of an entry that INSERT places follows its address class (R151, R152). -/
theorem insertedOccupant_legal {o : InsertOperands} {p : Place} {s : State}
    (place : insertPlace o = some p) (hr : RecordsLegal s) :
    OccupantLegal (insertedOccupant o p s) := by
  refine ⟨?_, ?_, fun m hm => ?_⟩
  · simp only [insertedOccupant]
    split <;> simp [lifeLegal]
  · unfold insertPlace at place
    split at place
    · next class_ _ _ =>
      cases place
      exact class_
    · next class_ _ =>
      split at place
      · next static =>
        cases place
        simp only [Bool.and_eq_true, bne_iff_ne, ne_eq] at static
        exact ⟨class_, by simp [insertedOccupant, static.1], static.2⟩
      · cases place
    · cases place
  · obtain ⟨q, -, rfl⟩ := Option.map_eq_some_iff.1 hm
    exact newMeter_legal q hr

/-- The set the pool gives an INSERT (R103). -/
def insertSet (o : InsertOperands) (s : State) : Option Nat :=
  o.counter.bind fun q => answerRequest q s

/-- INSERT's entry is allocated together with its set (R152, R153). -/
theorem insertCounter_allocate (o : InsertOperands) (p : Place) (ref : Nat) (s : State) :
    insertCounter o.counter ref (allocate ref (insertedOccupant o p s) s) =
      (allocateCounted ref (insertedOccupant o p s) (insertSet o s) s,
        if o.counter ≠ none ∧ insertSet o s = none then .okNoCounter else .ok, insertSet o s) := by
  unfold insertCounter insertSet
  rcases Option.eq_none_or_eq_some o.counter with hq | ⟨q, hq⟩
  · simp only [hq]
    rfl
  · simp only [hq, Option.bind_some, requestSet_allocate q ref s (o := insertedOccupant o p s) rfl]
    cases answerRequest q s <;> simp

theorem writes_insertWork (b : Block) (s : State) : Writes host s (insertWork b s).1 := by
  unfold insertWork
  split
  · exact .refl
  · next o _ =>
    split
    · exact .refl
    · next p hp =>
      split
      · exact .refl
      · next absent =>
        split
        · exact .refl
        · next ref place =>
          have placed : Writes host s
              (allocateCounted ref (insertedOccupant o p s) (insertSet o s) s) :=
            writes_allocateCounted (o := insertedOccupant o p s) _ absent place
              (insertedOccupant_legal hp)
          unfold insertAtRef
          rw [insertCounter_allocate]
          exact placed.trans (writes_raiseSpillHigh _ _)

/-- The member set an UPDATE names is not empty (R154 test 1). -/
theorem updateChanges_members {b : Block} {u : UpdateChanges} (h : updateChanges b = some u)
    {m : LaneSet} (hm : u.members = some m) : m ≠ 0 := by
  unfold updateChanges at h
  split at h
  · cases h
  · simp only [Option.bind_eq_bind, Option.bind_eq_some_iff] at h
    obtain ⟨home, -, members, hmembers, sp, -, dp, -, meter, -, h⟩ := h
    cases h
    subst hm
    unfold whenNamed nonEmptyOf at hmembers
    split at hmembers
    · split at hmembers
      · cases hmembers
      · next ne => cases hmembers; exact ne
    · cases hmembers

/-- The life an UPDATE leaves is legal (R155, R157). -/
theorem updated_life_legal (u : UpdateChanges) {l : Life} (h : lifeLegal l) :
    lifeLegal (onAging (thawed u) (pinned u l)) := by
  have thaw (a : Aging) : (thawed u a).moves ≤ a.moves ∧ (thawed u a).hit = a.hit ∧
      (a.frozen = false → (thawed u a).frozen = false) := by
    simp only [thawed]
    split <;> split <;> simp
  unfold pinned
  split
  · trivial
  · split
    · exact (thaw ⟨true, 0, false⟩).1.trans (Nat.zero_le _)
    · cases l with
      | new a origin => exact ⟨Nat.le_zero.1 (h.1 ▸ (thaw a).1), (thaw a).2.2 h.2⟩
      | live a => exact (thaw a).1.trans h
      | stale a => exact ⟨(thaw a).1.trans h.1, (thaw a).2.1.trans h.2⟩
      | pinned => trivial

/-- The kind an UPDATE leaves is legal: a GROUP entry stays PINNED with a non-empty member set (R155,
R156). -/
theorem updated_kind_legal {u : UpdateChanges} {o : Occupant} (s : State)
    (members : ∀ m, u.members = some m → m ≠ 0) (allowed : updateAllowed u o = true)
    (h : kindLegal o) : kindLegal (updated u o s) := by
  unfold kindLegal at h ⊢
  simp only [updated]
  cases hp : o.place with
  | unicast home =>
    rw [hp] at h
    exact h
  | group set =>
    rw [hp] at h
    obtain ⟨class_, life, ne⟩ := h
    have keep : u.unpin = false := by
      simp only [updateAllowed, hp, isUnicast, Bool.and_eq_true, Bool.and_false, Bool.or_false] at allowed
      simpa using allowed.1.1.1.2
    refine ⟨class_, ?_, ?_⟩
    · simp [pinned, keep, life, onAging]
    · cases hm : u.members with
      | none => exact ne
      | some m => exact members m hm

/-- An UPDATE that its tests allow leaves a legal entry (R155, R156, R157). -/
theorem updated_legal {u : UpdateChanges} {o : Occupant} {s : State} (hr : RecordsLegal s)
    (members : ∀ m, u.members = some m → m ≠ 0) (allowed : updateAllowed u o = true)
    (h : OccupantLegal o) : OccupantLegal (updated u o s) := by
  refine ⟨updated_life_legal u h.1, updated_kind_legal s members allowed h.2.1, fun m hm => ?_⟩
  simp only [updated, metered] at hm
  split at hm
  · exact h.2.2 m hm
  · cases hm
  · cases hm
    exact newMeter_legal _ hr

/-- UPDATE is a host command: its write may be of a PINNED entry. -/
theorem writes_updateWork (b : Block) (s : State) : Writes true s (updateWork b s).1 := by
  unfold updateWork
  split
  · next p u _ hu =>
    split
    · exact .refl
    · split
      · exact .refl
      · next o old =>
        split
        · next allowed =>
          exact writes_setOccupant _ old rfl
            (fun hr => updated_legal hr (fun _ => updateChanges_members hu) allowed) nofun
        · exact .refl
  · exact .refl

theorem writes_removeWork (b : Block) (s : State) : Writes true s (removeWork b s).1 := by
  unfold removeWork
  split
  · exact .refl
  · split
    · exact writes_retire _ _ _ nofun
    · exact .refl

theorem writes_removeKeyWork (b : Block) (s : State) : Writes true s (removeKeyWork b s).1 := by
  unfold removeKeyWork
  split
  · exact .refl
  · split
    · exact .refl
    · exact writes_retire _ _ _ nofun

theorem writes_findWork (b : Block) (s : State) : Writes host s (findWork b s).1 := by
  unfold findWork
  split
  · exact .refl
  · split
    · exact .refl
    · exact writes_bringUpEntry _ _

theorem writes_readWork (b : Block) (s : State) : Writes host s (readWork b s).1 := by
  unfold readWork
  split
  · exact .refl
  · exact writes_bringUpEntry _ _

/-- The counter set field of an entry is the host's to write. -/
theorem writes_setField {s : State} {ref : Nat} {o : Occupant} (set : Option Nat)
    (old : (entryAt s ref).occupant = some o) :
    Writes true s (setOccupant ref { o with counterSet := set } s) :=
  writes_setOccupant _ old rfl (fun _ h => h) nofun

theorem writes_requestSet (q : SetRequest) (ref : Nat) (s : State) :
    Writes true s (requestSet q ref s).1 := by
  unfold requestSet
  split
  · exact .refl
  · unfold attachSet
    split
    · exact .refl
    · next n _ _ o old =>
      have read : (entryAt (setCounterSetAt n ⟨.attached (pairAt s ref), .zero⟩ s) ref).occupant =
        some o := old
      exact (writes_setCounterSetAt _ _ _).trans (writes_setField _ read)

theorem writes_attachWork (b : Block) (s : State) : Writes true s (attachWork b s).1 := by
  unfold attachWork
  split
  · next p q _ _ =>
    split
    · exact .refl
    · split
      · exact .refl
      · have request := writes_requestSet q p.ref s
        split
        · next e => rw [e] at request; exact request
        · exact .refl
  · exact .refl

theorem writes_detachWork (b : Block) (s : State) : Writes true s (detachWork b s).1 := by
  unfold detachWork
  split
  · exact .refl
  · next p _ =>
    split
    · exact .refl
    · split
      · exact .refl
      · have drop : Writes true s (dropSetField p.ref s) := by
          unfold dropSetField
          split
          · exact .refl
          · next o old => exact writes_setField _ old
        exact drop.trans (writes_setCounterSetAt _ _ _)

/-! ### The configuration commands and the walks -/

theorem writes_setHashWork (b : Block) (s : State) : Writes host s (setHashWork b s).1 := by
  unfold setHashWork
  split
  · exact .refl
  · split
    · exact .refl
    · next empty =>
      rw [not_or, not_not, not_not] at empty
      exact .single (.hash _ empty.1 empty.2)

theorem writes_setSpillMarkWork (b : Block) (s : State) :
    Writes host s (setSpillMarkWork b s).1 := by
  unfold setSpillMarkWork
  split
  · exact .refl
  · next low => exact writes_control {} fun h => { h with spillMark := Nat.le_of_not_lt low }

theorem writes_grantTableStats (s : State) : Writes host s (grantTableStats s) := by
  have grant : Writes host s (grantTo 8 (.readingStats s.tableStats) s) := writes_grantTo _ (by nofun)
  unfold grantTableStats
  dsimp only
  split
  · split
    · exact grant.trans (writes_onTableStats (fun _ => .zero) _)
    · exact grant
  · exact grant

theorem writes_finishTableStats (s : State) : Writes host s (finishTableStats s) := by
  unfold finishTableStats
  split
  · exact (writes_engine _ (by nofun)).trans (writes_complete _ _ _ _ _)
  · exact .refl

theorem writes_afterStep (n : SlotNo) (b : Block) (w : Walk) (atEnd : Status) (found : Option Nat)
    (s : State) : Writes host s (afterStep n b w atEnd found s) := by
  unfold afterStep
  split
  · exact writes_complete _ _ _ _ _
  · split
    · exact writes_complete _ _ _ _ _
    · split
      · exact writes_complete _ _ _ _ _
      · exact writes_bookkeeping _ (some w) _ s

theorem writes_walkWork (c : Byte) {step : Selector → Walk → State → StepFound} (atEnd : Status)
    (h : ∀ q w s, Writes host s (step q w s).1) (s : State) :
    Writes host s (walkWork c step atEnd s) := by
  unfold walkWork
  split
  · next n b w _ _ =>
    split
    · exact writes_complete _ _ _ _ _
    · next q _ => exact (h q w s).trans (writes_afterStep _ _ _ _ _ _)
  · exact .refl

theorem writes_flushStep (q : Selector) (w : Walk) (s : State) : Writes true s (flushStep q w s).1 := by
  have visits (refs : List Nat) (acc : State × Nat) :
      Writes true acc.1 (refs.foldl (flushAt q) acc).1 := by
    induction refs generalizing acc with
    | nil => exact .refl
    | cons r rest ih =>
      refine .trans ?_ (ih _)
      unfold flushAt
      split
      · exact writes_retire _ _ _ nofun
      · exact .refl
  exact visits _ (s, 0)

end

end Sys2Proof.Machine

namespace Sys2Proof.Machine

-- One proof at a time: the whole text then compiles in few threads.
set_option Elab.async false

section
variable {host : Bool}

/-! ### Settings, domains, profiles and the pool -/

/-- A named move limit is in range, and one not named is kept (R28). -/
theorem domainWritten_moveLimit {b : Block} {r r' : Domain} (h : domainWritten b r = some r')
    (hr : r.moveLimit ≤ 15) : r'.moveLimit ≤ 15 := by
  unfold domainWritten at h
  simp only [Option.bind_eq_bind, Option.bind_eq_some_iff] at h
  obtain ⟨enabled, -, unicast, -, group, -, profile, -, limit, hlimit, h⟩ := h
  cases h
  unfold fieldOr moveLimitOf at hlimit
  split at hlimit
  · split at hlimit
    · next low => cases hlimit; exact low
    · cases hlimit
  · cases hlimit; exact hr

/-- Named profile values are in range, and those not named are kept (R87). -/
theorem profileWritten_legal {b : Block} {r r' : Profile} (h : profileWritten b r = some r')
    (hr : ProfileLegal r) : ProfileLegal r' := by
  unfold profileWritten at h
  simp only [Option.bind_eq_bind, Option.bind_eq_some_iff] at h
  obtain ⟨enabled, -, ceiling, hceiling, action, -, quantum, hquantum, h⟩ := h
  cases h
  refine ⟨?_, ?_⟩
  · unfold fieldOr ceilingOf at hceiling
    split at hceiling
    · dsimp only at hceiling
      split at hceiling
      · next range => cases hceiling; exact range
      · cases hceiling
    · cases hceiling; exact hr.1
  · unfold fieldOr quantumOf at hquantum
    split at hquantum
    · split at hquantum
      · cases hquantum
      · next ne => cases hquantum; exact ne
    · cases hquantum; exact hr.2

theorem writes_setDomainWork (b : Block) (s : State) : Writes host s (setDomainWork b s).1 := by
  unfold setDomainWork
  split
  · exact .refl
  · split
    · exact .refl
    · next written => exact .single (.domain _ _ (domainWritten_moveLimit written))

theorem writes_readDomainWork (b : Block) (s : State) : Writes host s (readDomainWork b s).1 := by
  unfold readDomainWork
  split <;> exact .refl

theorem writes_setProfileWork (b : Block) (s : State) : Writes host s (setProfileWork b s).1 := by
  unfold setProfileWork
  split
  · exact .refl
  · split
    · exact .refl
    · next written => exact .single (.profile _ _ (profileWritten_legal written))

theorem writes_readProfileWork (b : Block) (s : State) : Writes host s (readProfileWork b s).1 := by
  unfold readProfileWork
  split <;> exact .refl

theorem writes_readCountersWork (b : Block) (s : State) : Writes host s (readCountersWork b s).1 := by
  unfold readCountersWork
  split
  · exact .refl
  · dsimp only
    split
    · exact writes_setCounterSetAt _ _ _
    · exact .refl

theorem writes_reclaimWork (b : Block) (s : State) : Writes host s (reclaimWork b s).1 := by
  unfold reclaimWork
  split
  · exact .refl
  · next n _ =>
    split
    · exact (writes_setCounterSetAt n .reset s).trans (writes_control {} fun h => { h with })
    · exact .refl

theorem writes_setPoolWork (b : Block) (s : State) : Writes host s (setPoolWork b s).1 := by
  unfold setPoolWork
  split
  · exact .refl
  · split
    · exact .refl
    · next low => exact writes_control {} fun h => { h with orphanMark := Nat.le_of_not_lt low }

/-- The age timer started with a period runs within it, and not at all for period 0 (R71). -/
theorem startAgeTimer_legal {period r : Nat} (h : startAgeTimer period = some r) :
    r ≤ period * 1000 ∧ period ≠ 0 := by
  unfold startAgeTimer at h
  split at h
  · cases h
  · next ne => cases h; exact ⟨le_rfl, ne⟩

theorem writes_setAgingWork (b : Block) (s : State) : Writes host s (setAgingWork b s).1 := by
  unfold setAgingWork
  split
  · exact .refl
  · next low =>
    exact writes_control {} fun h => { h with
      agePeriod := Nat.le_of_not_lt low
      ageTimer := fun _ => startAgeTimer_legal }

theorem writes_startSweep (s : State) : Writes host s (startSweep s) :=
  writes_control {} fun h => { h with
    sweepCursor := Nat.zero_le _
    sweepIdle := fun _ => rfl
    sweeping := fun _ => rfl }

theorem writes_sweepNowWork (b : Block) (s : State) : Writes host s (sweepNowWork b s).1 := by
  unfold sweepNowWork
  split
  · exact .refl
  · exact writes_startSweep s

/-! ### The lanes' commands and happenings -/

/-- The settings of a lane are written without its tags (R118). -/
theorem settingsWritten_tags {learning pause timeout : Bool} {b : Block} {x y : Lane}
    (h : settingsWritten learning pause timeout b x = some y) : y.tags = x.tags := by
  unfold settingsWritten at h
  simp only [Option.bind_eq_bind, Option.bind_eq_some_iff] at h
  obtain ⟨_, -, _, -, _, -, h⟩ := h
  cases h
  rfl

theorem writes_laneEnableWork (b : Block) (s : State) : Writes host s (laneEnableWork b s).1 := by
  unfold laneEnableWork
  split
  · exact .refl
  · split
    · exact .refl
    · next x written =>
      split
      · refine .single (.lane _ _ fun h => ?_)
        rw [← settingsWritten_tags written] at h
        exact h
      · exact .refl

theorem writes_laneSetWork (b : Block) (s : State) : Writes host s (laneSetWork b s).1 := by
  unfold laneSetWork
  split
  · exact .refl
  · split
    · exact .refl
    · next x written => exact .single (.lane _ _ fun h => by rw [settingsWritten_tags written]; exact h)

theorem keepsTags_disabled : KeepsTags disabled := by
  intro x h
  unfold disabled
  split
  · exact h
  · exact canonical_nil _

theorem writes_laneDisableWork (b : Block) (s : State) : Writes host s (laneDisableWork b s).1 := by
  unfold laneDisableWork
  split
  · exact .refl
  · exact writes_onLane _ keepsTags_disabled _

theorem writes_laneReleaseWork (b : Block) (s : State) : Writes host s (laneReleaseWork b s).1 := by
  unfold laneReleaseWork
  split
  · exact .refl
  · split
    · exact writes_onLane (f := fun x => { x with state := .waiting }) _ (fun _ h => h) _
    · exact .refl

theorem writes_readLaneStatsWork (b : Block) (s : State) :
    Writes host s (readLaneStatsWork b s).1 := by
  unfold readLaneStatsWork
  split
  · exact .refl
  · dsimp only
    split
    · exact writes_onLaneStats _ _ _
    · exact .refl

theorem keepsTags_cancelPause : KeepsTags cancelPause := by
  intro x h
  unfold cancelPause
  split <;> exact h

theorem writes_pauseCancelWork (b : Block) (s : State) : Writes host s (pauseCancelWork b s).1 := by
  unfold pauseCancelWork
  split
  · exact .refl
  · exact writes_onLane _ keepsTags_cancelPause _

theorem keepsTags_sendFaultOn (r : FaultReason) : KeepsTags (sendFaultOn r) := by
  intro x h
  unfold sendFaultOn
  split <;> exact h

theorem keepsTags_restartLane : KeepsTags restartLane := fun _ _ => canonical_nil _

theorem keepsTags_takeSettle (t : TagNo) (good : Bool) (byteCount : Word16) :
    KeepsTags (takeSettle t good byteCount) := by
  intro x h
  unfold takeSettle
  split
  · exact canonical_setTag h
  all_goals exact h

theorem keepsTags_takeLookup (t : TagNo) (domain : Byte) (destination source : Address) :
    KeepsTags (takeLookup t domain destination source) := fun x h =>
  canonical_setTag (x := { x with queue := x.queue ++ [.lookup t domain destination source] }) h

theorem writes_laneFault (l : LaneNo) (r : FaultReason) (s : State) :
    Writes host s (laneFault l r s) := by
  have fault : KeepsTags fun x =>
      let y := sendFaultOn r (closeOut x)
      { y with state := .held, stats := { y.stats with faults := raise32 y.stats.faults } } :=
    fun x _ => keepsTags_sendFaultOn r (closeOut x) (canonical_nil _)
  exact (writes_onLane l fault s).trans (writes_raiseCause _ _)

theorem writes_judge (l : LaneNo) (r : Received) (s : State) : Writes host s (judge l r s) := by
  have reply (f : FaultReason) : Writes host s (onLane l (sendFaultOn f) s) :=
    writes_onLane l (keepsTags_sendFaultOn f) s
  have restart : Writes host s (onLane l restartLane s) := writes_onLane l keepsTags_restartLane s
  unfold judge
  split
  · exact .refl
  · exact .refl
  · exact reply _
  · exact writes_laneFault _ _ _
  · exact writes_laneFault _ _ _
  · unfold judgeWaiting
    split
    · exact restart
    · exact reply _
    · exact reply _
  · unfold judgeReady
    split
    · exact restart
    · split
      · exact writes_laneFault _ _ _
      · exact writes_onLane l (keepsTags_takeLookup _ _ _ _) s
    · exact writes_onLane l (keepsTags_takeSettle _ _ _) s

theorem writes_receive (l : LaneNo) (opening : Opening) (r : Received) (s : State) :
    Writes host s (receive l opening r s) := by
  have heard : Writes host s (setLane l { laneAt s l with receiveOpen := true } s) :=
    .single (.lane l _ fun h => h)
  unfold receive
  dsimp only
  split
  · exact .refl
  · split
    · exact heard
    · exact heard.trans (writes_judge _ _ _)

theorem keepsTags_transmitNext : KeepsTags transmitNext := by
  intro x h
  unfold transmitNext
  split <;> exact h

theorem keepsTags_timeOut (t : TagNo) : KeepsTags (timeOut t) := by
  intro x h
  unfold timeOut
  split
  · exact canonical_setTag h
  · exact h

theorem keepsTags_expirePause : KeepsTags expirePause := by
  intro x h
  unfold expirePause
  split <;> exact h

theorem keepsTags_countDownPause : KeepsTags countDownPause := by
  intro x h
  unfold countDownPause
  split <;> exact h

theorem keepsTags_testTimers (now : Time) : KeepsTags (testTimers now) := by
  intro x h
  unfold testTimers
  induction List.finRange 16 generalizing x with
  | nil => exact h
  | cons t rest ih => exact ih _ (canonical_setTag h)

/-! ### The timers and the Timebase -/

theorem writes_ageTick (s : State) : Writes host s (ageTick s) := by
  have restart : Writes host s { s with ageTimer := startAgeTimer s.agePeriod } :=
    writes_control {} fun h => { h with ageTimer := fun _ => startAgeTimer_legal }
  unfold ageTick
  dsimp only
  split
  · exact restart.trans ((writes_onTableStats _ _).trans (writes_raiseCause _ _))
  · exact restart.trans (writes_startSweep _)

theorem writes_microsecondTick {s : State} (due : s.subMs < Config.ticksPerMs) :
    Writes host s (microsecondTick s) := by
  have tick : Writes host s { s with subMs := s.subMs + 1, tickDivider := s.divider } :=
    writes_control {} fun h => { h with subMs := due, tickDivider := h.divider }
  exact tick.trans (writes_onEveryLane keepsTags_countDownPause _)

theorem writes_millisecondTick (s : State) : Writes host s (millisecondTick s) := by
  have tick : Writes host s
      { s with subMs := 0, ms := s.ms + 1, ageTimer := countDownAge s.ageTimer } :=
    writes_control {} fun h => { h with
      subMs := Nat.zero_le _
      ageTimer := fun r hr => by
        obtain ⟨r', h', rfl⟩ := Option.map_eq_some_iff.1 hr
        have legal := h.ageTimer r' h'
        exact ⟨(Nat.sub_le _ _).trans legal.1, legal.2⟩ }
  exact tick.trans (writes_onEveryLane (keepsTags_testTimers _) _)

/-! ### The Host Window -/

theorem writes_clearCauses (value : Word16) (s : State) : Writes host s (clearCauses value s) :=
  writes_control {} fun h => { h with
    irqPending := by
      have hp := h.irqPending
      rw [show (clearCauses value s).irqPending = s.irqPending &&& ~~~value from rfl, BitVec.and_assoc,
        BitVec.and_comm (~~~value), ← BitVec.and_assoc, hp]
      exact BitVec.zero_and }

theorem writes_enableCauses (value : Word16) (s : State) : Writes host s (enableCauses value s) :=
  writes_control {} fun h => { h with
    irqEnable := by
      have none : causeMask &&& ~~~causeMask = 0 := by decide
      rw [show (enableCauses value s).irqEnable = value &&& causeMask from rfl, BitVec.and_assoc, none]
      exact BitVec.and_zero }

theorem writes_writeDivider (value : Word16) (s : State) : Writes host s (writeDivider value s) := by
  unfold writeDivider
  split
  · exact .refl
  · next ne => exact writes_control {} fun h => { h with divider := ne }

theorem writes_deviceReset (s : State) (low : Bool) :
    Writes true s { deviceReset s with resetLow := low } := by
  have reset : Writes true s .reset := .single (.reset rfl)
  exact reset.trans (writes_control {} fun h => { h with })

theorem writes_writeReset (value : Word16) (s : State) : Writes true s (writeReset value s) := by
  unfold writeReset
  split
  · exact writes_deviceReset s false
  · exact .refl

/-- A write to a word of the window; a device reset among them is the host's (R172). -/
theorem writes_windowWrite {address : BitVec 7} (value : Word16) (s : State)
    (h : address = 0x7F → host = true) : Writes host s (windowWrite address value s) := by
  unfold windowWrite
  split
  · exact writes_submitCommand s
  · exact writes_writeRetire _ _
  · exact writes_writeAbort _ _
  · exact writes_clearCauses _ _
  · exact writes_enableCauses _ _
  · exact writes_writeDivider _ _
  · next e =>
    rw [h (BitVec.eq_of_toNat_eq e)]
    exact writes_writeReset _ _
  · split
    · exact .single (.word _ _)
    · exact .refl

/-! ### Every command is a sequence of writes -/

/-- The commands whose writes are the host's of entries, and those that are not well formed, which may be a
device reset by another name (log 11). -/
def changesEntries (c : Instr) : Bool := isHostChange c || !c.wellFormed

theorem writes_resolve {part : LaneOpPart} {s t : State} (e : execResolve part s = .next t) :
    Writes host s t := by
  cases part with
  | whole =>
    refine writes_of_act ?_ e
    split
    · exact (writes_grantResolve s).trans (writes_finishResolve _)
    · exact .refl
  | grant => exact writes_of_act (writes_grantResolve s) e
  | perform => exact writes_of_act (writes_performResolve s) e
  | finish => exact writes_of_act (writes_finishResolve s) e

theorem writes_settleOperation {part : LaneOpPart} {s t : State}
    (e : execSettleOperation part s = .next t) : Writes host s t := by
  cases part with
  | whole =>
    refine writes_of_act ?_ e
    split
    · exact (writes_grantSettle s).trans (writes_finishSettle _)
    · exact .refl
  | grant => exact writes_of_act (writes_grantSettle s) e
  | perform => exact writes_of_act (writes_performSettle s) e
  | finish => exact writes_of_act (writes_finishSettle s) e

theorem writes_sweepStep {part : OpPart} {s t : State} (e : execSweepStep part s = .next t) :
    Writes host s t := by
  refine writes_operationParts (fun s offered => writes_grantTo _ fun _ => ?_) writes_finishSweep e
  have grant := of_decide_eq_true offered
  unfold nextGrant at grant
  split at grant
  · exact arbiterChoice_requests grant
  · cases grant

/-- Every command makes a sequence of writes, and the host's only where it changes entries. -/
theorem exec_writes {c : Instr} {s t : State} (e : exec c s = .next t) :
    Writes (changesEntries c) s t := by
  cases c with
  | lookup => exact writes_of_act (writes_receive _ _ _ s) e
  | settle => exact writes_of_act (writes_receive _ _ _ s) e
  | restart => exact writes_of_act (writes_receive _ _ _ s) e
  | malformedMessage => exact writes_of_act (writes_receive _ _ _ s) e
  | transmitMessage => exact writes_of_act (writes_onLane _ keepsTags_transmitNext s) e
  | resolve => exact writes_resolve e
  | settleOperation => exact writes_settleOperation e
  | settleTimeout => exact writes_of_act (writes_onLane _ (keepsTags_timeOut _) s) e
  | ageTick =>
    refine writes_of_act ?_ e
    split
    · exact writes_ageTick s
    · exact .refl
  | sweepStep => exact writes_sweepStep e
  | pauseExpiry => exact writes_of_act (writes_onLane _ keepsTags_expirePause s) e
  | microsecondTick =>
    refine writes_of_act ?_ e
    split
    · next due => exact writes_microsecondTick due
    · exact .refl
  | millisecondTick =>
    refine writes_of_act ?_ e
    split
    · exact writes_millisecondTick s
    · exact .refl
  | commandStart => exact writes_of_act (writes_commandStart s) e
  | insert => exact writes_tableCommand writes_insertWork e
  | update => exact writes_tableCommand writes_updateWork e
  | remove => exact writes_tableCommand writes_removeWork e
  | removeKey => exact writes_tableCommand writes_removeKeyWork e
  | find => exact writes_tableCommand writes_findWork e
  | read => exact writes_tableCommand writes_readWork e
  | attach => exact writes_tableCommand writes_attachWork e
  | detach => exact writes_tableCommand writes_detachWork e
  | setHash => exact writes_tableCommand writes_setHashWork e
  | setSpillMark => exact writes_tableCommand writes_setSpillMarkWork e
  | readTableStats =>
    exact writes_operationParts (fun s _ => writes_grantTableStats s) writes_finishTableStats e
  | flush => exact writes_commandOperation (writes_walkWork _ _ writes_flushStep) e
  | count => exact writes_commandOperation (writes_walkWork _ _ fun _ _ _ => .refl) e
  | search => exact writes_commandOperation (writes_walkWork _ _ fun _ _ _ => .refl) e
  | setDomain => exact writes_directCommand writes_setDomainWork e
  | readDomain => exact writes_directCommand writes_readDomainWork e
  | setProfile => exact writes_directCommand writes_setProfileWork e
  | readProfile => exact writes_directCommand writes_readProfileWork e
  | readCounters => exact writes_directCommand writes_readCountersWork e
  | reclaim => exact writes_directCommand writes_reclaimWork e
  | setPool => exact writes_directCommand writes_setPoolWork e
  | setAging => exact writes_directCommand writes_setAgingWork e
  | sweepNow => exact writes_directCommand writes_sweepNowWork e
  | laneEnable => exact writes_directCommand writes_laneEnableWork e
  | laneSet => exact writes_directCommand writes_laneSetWork e
  | laneDisable => exact writes_directCommand writes_laneDisableWork e
  | laneRelease => exact writes_directCommand writes_laneReleaseWork e
  | readLaneStats => exact writes_directCommand writes_readLaneStatsWork e
  | pauseCancel => exact writes_directCommand writes_pauseCancelWork e
  | submit => exact writes_of_act (writes_submitCommand s) e
  | retire => exact writes_of_act (writes_writeRetire _ s) e
  | abort => exact writes_of_act (writes_writeAbort _ s) e
  | interruptPending => exact writes_of_act (writes_clearCauses _ s) e
  | interruptEnable => exact writes_of_act (writes_enableCauses _ s) e
  | timebaseDivider => exact writes_of_act (writes_writeDivider _ s) e
  | millisecondCounterLowRead => exact writes_of_act (writes_control {} fun h => { h with }) e
  | resetWord => exact writes_of_act (writes_writeReset _ s) e
  | resetPin =>
    cases e
    exact writes_deviceReset s true
  | resetPinRelease =>
    cases e
    exact writes_control {} fun h => { h with }
  | registerWrite address value =>
    refine writes_of_act (writes_windowWrite value s fun last => ?_) e
    subst last
    rfl

/-- The host's writes are all the writes there are. -/
theorem write_of_any {s t : State} (w : Write host s t) : Write true s t := by
  cases w with
  | control tables legal => exact .control tables legal
  | occupant o' old key legal _ => exact .occupant o' old key legal nofun
  | allocate o absent place legal => exact .allocate o absent place legal
  | vacate old _ => exact .vacate old nofun
  | hash select main spill => exact .hash select main spill
  | domain d r legal => exact .domain d r legal
  | profile p r legal => exact .profile p r legal
  | counterSet n c => exact .counterSet n c
  | lane l x tags => exact .lane l x tags
  | slot n x => exact .slot n x
  | word n v => exact .word n v
  | reset _ => exact .reset rfl

/-- A step makes a sequence of writes. -/
theorem step_writes {s t : State} (e : step s = .next t) : Writes true s t := by
  unfold step at e
  split at e
  · cases e; exact .refl
  · next c rest _ =>
    have queue : Writes true s (s.withPending rest) := writes_control {} fun h => { h with }
    exact queue.trans (Relation.ReflTransGen.mono (fun _ _ w => write_of_any w) _ _ (exec_writes e))

end

/-! ### The laws that every step keeps -/

/-- Settles O52: a PINNED entry stays as it is, but for its meter, under each write that is not the host's. -/
theorem pinnedKept : Obligations.PinnedKept := by
  unfold Obligations.PinnedKept
  intro c s t k o wf host ho life e
  have writes := exec_writes e
  rw [show changesEntries c = false by simp [changesEntries, host, wf]] at writes
  have kept : PinnedAs k (entryAt s k) t :=
    writes.keeps write_keeps_pinned ⟨⟨rfl, rfl⟩, o, ho, life⟩
  exact kept.1

/-- Settles O55: each write keeps every store in canonical form. -/
theorem stepKeepsStores : Obligations.StepKeepsStores := fun _ _ h e =>
  (step_writes e).keeps write_keeps_stores h

/-- Settles O56: each write keeps the settings, the records and, under legal records, the entries legal. -/
theorem stepKeepsValues : Obligations.StepKeepsValues :=
  ⟨fun _ _ h e => (step_writes e).keeps write_keeps_settings h,
    fun _ _ h e => (step_writes e).keeps write_keeps_records h,
    fun _ _ hr he e => ((step_writes e).keeps write_keeps_entries ⟨hr, he⟩).2⟩

/-- Settles O57: each write keeps the counts true and, under true counts, the keys placed. -/
theorem stepKeepsTable : Obligations.StepKeepsTable :=
  ⟨fun _ _ h e => (step_writes e).keeps write_keeps_occupancy h,
    fun _ _ hc hk e => ((step_writes e).keeps write_keeps_keys ⟨hc, hk⟩).2⟩

end Sys2Proof.Machine

namespace Sys2Proof.Machine

-- One proof at a time: the whole text then compiles in few threads.
set_option Elab.async false

/-! ### The queue, the reset values and the check values -/

/-- Settles O1: both clauses are the two arms of `step`. -/
theorem stepTakesFrontCommand : Obligations.StepTakesFrontCommand := by
  refine ⟨fun c rest s h => ?_, fun s h => ?_⟩ <;> simp only [step, h]

/-- Settles O3: an empty store reads as its reset value, and each other field is written out in the reset
state. -/
theorem resetValues : Obligations.ResetValues := by
  unfold Obligations.ResetValues
  have lane (l : LaneNo) : laneAt .reset l = .reset := rfl
  simp only [lane]
  refine ⟨fun _ => rfl, rfl, rfl, rfl, rfl, rfl, rfl, fun _ => rfl, fun _ => rfl, fun _ => rfl, rfl, rfl,
    rfl, rfl, rfl, rfl, rfl, fun _ => ?_, fun _ => rfl, rfl, rfl, fun _ => rfl, rfl, rfl, rfl, rfl, rfl,
    rfl, rfl⟩
  exact ⟨rfl, rfl, rfl, rfl, fun _ => rfl, rfl, rfl, rfl, rfl, rfl, rfl⟩

/-- Settles O13, by running both registers over the nine characters. -/
theorem checkValues : Obligations.CheckValues := by
  unfold Obligations.CheckValues
  decide +kernel

/-! ### The reset state meets the laws -/

/-- A lane after device reset has no item, no open tag and no pause (R139). -/
theorem laneLawful_reset : LaneLawful .reset where
  items _ h := nomatch h
  oneEach := List.nodup_nil
  closed _ := ⟨fun _ => rfl, rfl⟩
  pausing _ := rfl

/-- The pool after device reset: every set FREE with zero counts (R114). -/
theorem poolPaired_reset : PoolPaired .reset where
  named _ _ _ h := nomatch h
  owned _ _ h := nomatch h
  free _ _ := rfl
  orphaned := by
    have free (n : Nat) : isOrphaned .reset n = false := rfl
    exact (List.countP_eq_zero.2 fun n _ => by simp [free n]).symm
  bound _ _ := rfl

/-- Settles O54: law by law, from the reset values. -/
theorem resetMeetsTheLaws : Obligations.ResetMeetsTheLaws := by
  refine ⟨?_, settingsLegal_reset, recordsLegal_reset, nofun, occupancyTrue_reset,
    keysPlaced_reset, poolPaired_reset, ⟨fun _ => laneLawful_reset, ⟨fun _ => rfl⟩⟩, ?_⟩
  · constructor <;> intros <;> exact canonical_nil _
  · exact ⟨fun _ => ⟨nofun, nofun⟩, List.nodup_nil, nofun⟩

/-! ### The arbiter -/

/-- In a strictly rising list a search finds the least element that passes. -/
theorem find?_eq_some_iff_least {α : Type} [LinearOrder α] {l : List α}
    (rising : l.Pairwise (· < ·)) {p : α → Bool} {a : α} :
    l.find? p = some a ↔ a ∈ l ∧ p a = true ∧ ∀ b ∈ l, b < a → p b = false := by
  induction l with
  | nil => simp
  | cons x rest ih =>
    rw [List.pairwise_cons] at rising
    obtain ⟨first, rising⟩ := rising
    by_cases hx : p x = true
    · rw [List.find?_cons_of_pos hx, Option.some.injEq]
      constructor
      · rintro rfl
        refine ⟨List.mem_cons_self, hx, fun b hb lt => ?_⟩
        rcases List.mem_cons.1 hb with rfl | hb
        · exact absurd lt (lt_irrefl _)
        · exact absurd lt (lt_asymm (first b hb))
      · rintro ⟨ha, -, least⟩
        rcases List.mem_cons.1 ha with rfl | ha
        · rfl
        · exact absurd hx (by simp [least x List.mem_cons_self (first a ha)])
    · rw [List.find?_cons_of_neg hx, ih rising]
      constructor
      · rintro ⟨ha, hp, least⟩
        refine ⟨List.mem_cons_of_mem _ ha, hp, fun b hb lt => ?_⟩
        rcases List.mem_cons.1 hb with rfl | hb
        · simpa using hx
        · exact least b hb lt
      · rintro ⟨ha, hp, least⟩
        rcases List.mem_cons.1 ha with rfl | ha
        · exact absurd hp hx
        · exact ⟨ha, hp, fun b hb => least b (List.mem_cons_of_mem _ hb)⟩

/-- The arbiter's choice is the requester nearest after the pointer (R22). -/
theorem arbiterChoice_nearest {s : State} {j k : Fin 10} (choice : arbiterChoice s = some k)
    (requests : requesting s j = true) : k - s.pointer ≤ j - s.pointer := by
  unfold arbiterChoice at choice
  rw [List.find?_map, Option.map_eq_some_iff] at choice
  obtain ⟨i, found, rfl⟩ := choice
  rw [find?_eq_some_iff_least (by decide)] at found
  obtain ⟨-, -, least⟩ := found
  rw [add_sub_cancel_left]
  by_contra further
  have every : ∀ i : Fin 10, i ∈ ([0, 1, 2, 3, 4, 5, 6, 7, 8, 9] : List (Fin 10)) := by decide
  have passed := least _ (every _) (not_le.1 further)
  rw [Function.comp_apply, add_sub_cancel, requests] at passed
  cases passed

/-- While some requester requests, the arbiter chooses one (R22). -/
theorem arbiterChoice_exists {s : State} {j : Fin 10} (requests : requesting s j = true) :
    ∃ k, arbiterChoice s = some k := by
  rw [← Option.isSome_iff_exists, arbiterChoice, List.find?_isSome]
  refine ⟨j, List.mem_map.2 ⟨j - s.pointer, ?_, add_sub_cancel _ _⟩, requests⟩
  generalize j - s.pointer = i
  revert i
  decide

/-- A grant to a nearer requester brings the pointer nearer to `j`. -/
theorem pointer_nearer : ∀ p j k : Fin 10, k - p ≤ j - p → k ≠ j →
    (j - (k + 1)).val + 1 ≤ (j - p).val := by decide

/-- A run in which `j` requests and is passed over is no longer than the distance from the pointer to `j`. -/
theorem run_le_distance {j : Fin 10} {u : State} {rest : List State}
    (passed : ∀ w ∈ u :: rest, requesting w j = true ∧ arbiterChoice w ≠ some j)
    (chain : (u :: rest).IsChain fun v w => ∃ k, arbiterChoice v = some k ∧ w.pointer = k + 1) :
    (u :: rest).length ≤ (j - u.pointer).val := by
  have nearer {k : Fin 10} (hk : arbiterChoice u = some k) :
      (j - (k + 1)).val + 1 ≤ (j - u.pointer).val := by
    obtain ⟨requests, other⟩ := passed u List.mem_cons_self
    exact pointer_nearer _ _ _ (arbiterChoice_nearest hk requests) fun e => other (e ▸ hk)
  induction rest generalizing u with
  | nil =>
    obtain ⟨k, hk⟩ := arbiterChoice_exists (passed u List.mem_cons_self).1
    exact (Nat.le_add_left 1 _).trans (nearer hk)
  | cons v rest ih =>
    rw [List.isChain_cons_cons] at chain
    obtain ⟨⟨k, hk, next⟩, chain⟩ := chain
    have passed' : ∀ w ∈ v :: rest, requesting w j = true ∧ arbiterChoice w ≠ some j :=
      fun w hw => passed w (List.mem_cons_of_mem _ hw)
    have shorter := ih passed' chain fun {k} hk => by
      obtain ⟨requests, other⟩ := passed' v List.mem_cons_self
      exact pointer_nearer _ _ _ (arbiterChoice_nearest hk requests) fun e => other (e ▸ hk)
    rw [next] at shorter
    exact (Nat.succ_le_succ shorter).trans (nearer hk)

/-- Settles O14: each grant to another brings the pointer nearer to `j`, and it begins at most nine away. -/
theorem arbiterIsFair : Obligations.ArbiterIsFair := by
  intro j run passed chain
  cases run with
  | nil => exact Nat.zero_le 9
  | cons u rest => exact (run_le_distance passed chain).trans (Nat.le_of_lt_succ (j - u.pointer).isLt)

/-! ### Grants -/

/-- What a grant to a lane makes of the part: its head item in hand, the engine taken, the pointer moved. -/
theorem onLane_takeInHand {l : LaneNo} {item : Item} {rest : List Item} {s : State} (k : Fin 10)
    (e : Engine) (queue : (laneAt s l).queue = item :: rest) :
    onLane l takeInHand (grantTo k e s) =
      { s with
        pointer := k + 1
        engine := e
        lanes := put .reset s.lanes l.val
          { laneAt s l with queue := rest, inHand := some ⟨item, false⟩ } } := by
  unfold onLane
  rw [laneAt_grantTo]
  unfold takeInHand
  rw [queue]
  rfl

/-- A resolve is offered when the next grant is a lane's whose head item is a LOOKUP item (R21). -/
theorem resolveOffer_lane {l : LaneNo} {s : State} {t : TagNo} {d : Byte} {dst src : Address}
    {rest : List Item} (grant : nextGrant s = some (l.castLE (by decide)))
    (queue : (laneAt s l).queue = .lookup t d dst src :: rest) :
    resolveOffer s = some ⟨l, t, d, dst, src, domainAt s d⟩ := by
  have lane (h : (l.castLE (by decide) : Fin 10).val < 8) :
      laneAt s ⟨(l.castLE (by decide) : Fin 10).val, h⟩ = laneAt s l := rfl
  unfold resolveOffer
  rw [grant]
  dsimp only
  rw [dif_pos (show (l.castLE (by decide) : Fin 10).val < 8 from l.isLt), lane, queue]
  rfl

/-- A settle operation is offered when the next grant is a lane's whose head item is a SETTLE item with its
tag CLOSING (R21, R135). -/
theorem settleOffer_lane {l : LaneNo} {s : State} {t : TagNo} {good : Bool} {n : Word16}
    {record : TagRecord} {rest : List Item} (grant : nextGrant s = some (l.castLE (by decide)))
    (queue : (laneAt s l).queue = .settle t good n :: rest)
    (closing : tagOf (laneAt s l) t = .closing record) :
    settleOffer s = some ⟨l, t, record, good, n⟩ := by
  have lane (h : (l.castLE (by decide) : Fin 10).val < 8) :
      laneAt s ⟨(l.castLE (by decide) : Fin 10).val, h⟩ = laneAt s l := rfl
  unfold settleOffer
  rw [grant]
  dsimp only
  rw [dif_pos (show (l.castLE (by decide) : Fin 10).val < 8 from l.isLt), lane, queue]
  dsimp only
  rw [closing]
  rfl

/-- The next grant is for the RUNNING command when it is the Command Unit's (R21). -/
theorem offersCommand_of_running {c : Byte} {n : SlotNo} {b : Block} {s : State}
    (h : CommandRunning c n b s) (grant : nextGrant s = some 8) : offersCommand c s = true := by
  unfold offersCommand
  rw [grant, h.running]
  rfl

/-- The grant of a table command takes the engine and moves the pointer on. -/
theorem commandOperation_grant {c : Byte} {n : SlotNo} {b : Block} {s : State} (work : State → State)
    (h : CommandRunning c n b s) (grant : nextGrant s = some 8) :
    commandOperation c work .grant s = .next { s with pointer := 9, engine := .command } := by
  unfold commandOperation
  rw [((operationParts_awake _ _ _ h.awake).1 (offersCommand_of_running h grant)).2]
  rfl

/-- Settles O15: a grant is `grantTo`, and for a lane its head item taken in hand. -/
theorem grantTaken : Obligations.GrantTaken := by
  refine ⟨fun l item rest s awake grant queue => ⟨?_, ?_⟩, ?_, fun s awake grant => ?_⟩
  · rintro t d dst src rfl
    refine (act_awake grantResolve awake).trans ?_
    unfold grantResolve
    rw [resolveOffer_lane grant queue]
    exact congrArg _ (onLane_takeInHand _ _ queue)
  · rintro t good n record rfl closing
    refine (act_awake grantSettle awake).trans ?_
    unfold grantSettle
    rw [settleOffer_lane grant queue closing]
    exact congrArg _ (onLane_takeInHand _ _ queue)
  · intro n b s grant p mem running
    simp only [List.mem_cons, List.not_mem_nil, or_false] at mem
    rcases mem with rfl | rfl | rfl | rfl | rfl | rfl | rfl | rfl | rfl | rfl | rfl | rfl | rfl
    all_goals
      simp only [exec, execInsert, execUpdate, execRemove, execRemoveKey, execFind, execRead, execAttach,
        execDetach, execSetHash, execSetSpillMark, execFlush, execCount, execSearch, tableCommand]
      exact commandOperation_grant _ running grant
  · have offered : decide (nextGrant s = some 9) = true := decide_eq_true grant
    exact ((operationParts_awake (fun s => decide (nextGrant s = some 9)) _ finishSweep awake).1 offered).2

/-! ### The configuration commands -/

/-- A table command that its tests refuse or allow ends with its status, in a granted state. -/
theorem tableCommand_ended {c : Byte} {n : SlotNo} {b : Block} {s : State}
    {work : Block → State → Performed} {t : State} {st : Status} {values : List Word16}
    (h : CommandGranted c n b s)
    (e : work b { s with engine := .idle } = ({ t with engine := .idle }, st, values)) :
    tableCommand c work .finish s = .next (ended n b st values t) := by
  rw [tableCommand_finish work h, e]
  rfl

/-- The grant of READ_TABLE_STATS, field by field (R19). -/
theorem grantTableStats_eq {n : SlotNo} {b : Block} {s : State} (h : CommandRunning 0x0B n b s) :
    grantTableStats s =
      { s with
        pointer := 9
        engine := .readingStats s.tableStats
        tableStats := if selected b 0 then .zero else s.tableStats } := by
  unfold grantTableStats
  rw [h.running]
  dsimp only
  split <;> rfl

/-- Settles O41: each command's tests in order, and the statistics read at the grant. -/
theorem tableSettings : Obligations.TableSettings := by
  refine fun n b s => ⟨fun h => ⟨fun high => ?_, fun k hk => ?_⟩, fun h => ⟨fun high => ?_, fun low => ?_⟩,
    fun h => ?_⟩
  · refine tableCommand_ended h ?_
    unfold setHashWork belowOf
    rw [dif_neg (Nat.not_lt.2 high)]
    rfl
  · have select : belowOf 3 (wordAt b 2) = some k := by
      unfold belowOf
      rw [dif_pos (by omega)]
      exact congrArg some (Fin.ext hk)
    refine ⟨fun full => tableCommand_ended h ?_, fun main spill => tableCommand_ended h ?_⟩ <;>
      unfold setHashWork <;> rw [select]
    · exact if_pos full
    · exact if_neg (by simp [main, spill])
  · exact tableCommand_ended h (if_pos high)
  · exact tableCommand_ended h (if_neg (Nat.not_lt.2 low))
  · have granted := grantTableStats_eq h
    have parts (grant : nextGrant s = some 8) :=
      (operationParts_awake _ grantTableStats finishTableStats h.awake).1 (offersCommand_of_running h grant)
    refine ⟨fun grant => (parts grant).2.trans (congrArg _ granted), fun grant => ?_,
      fun k engine => execReadTableStats_finish h engine⟩
    have reading : CommandRunning 0x0B n b (grantTableStats s) := by
      rw [granted]
      exact ⟨h.awake, h.running⟩
    have finish := execReadTableStats_finish reading (k := s.tableStats) (by rw [granted])
    have finished := (operationParts_awake (offersCommand 0x0B) grantTableStats finishTableStats
      reading.awake).2.2
    refine (parts grant).1.trans (finished.symm.trans (finish.trans ?_))
    rw [granted]
    rfl

end Sys2Proof.Machine

namespace Sys2Proof.Machine

-- One proof at a time: the whole text then compiles in few threads.
set_option Elab.async false

/-! ### What a resolve leaves alone -/

/-- What the effects of a resolve on `i` leave alone (R23, R38, R39). -/
structure ResolveKeeps (i : ResolveInput) (s t : State) : Prop where
  frame : { t with
    entries := s.entries, occupancy := s.occupancy, tableStats := s.tableStats,
    counterSets := s.counterSets, lanes := s.lanes, irqPending := s.irqPending,
    engine := s.engine } = s
  others : ∀ l, l ≠ i.lane → laneAt t l = laneAt s l
  ingress : { laneAt t i.lane with
    pause := (laneAt s i.lane).pause, waiting := (laneAt s i.lane).waiting,
    stats := (laneAt s i.lane).stats } = laneAt s i.lane
  entries : ∀ k o, (entryAt s k).occupant = some o → o.key ≠ ⟨i.domain, i.source⟩ →
    entryAt t k = entryAt s k

section
variable {i : ResolveInput} {s : State}

theorem ResolveKeeps.refl : ResolveKeeps i s s := ⟨rfl, fun _ _ => rfl, rfl, fun _ _ _ _ => rfl⟩

theorem ResolveKeeps.trans {t u : State} (h : ResolveKeeps i s t) (g : ResolveKeeps i t u) :
    ResolveKeeps i s u where
  frame := (congrArg (fun v : State => { v with
    entries := s.entries, occupancy := s.occupancy, tableStats := s.tableStats,
    counterSets := s.counterSets, lanes := s.lanes, irqPending := s.irqPending,
    engine := s.engine }) g.frame).trans h.frame
  others l hl := (g.others l hl).trans (h.others l hl)
  ingress := (congrArg (fun y : Lane => { y with
    pause := (laneAt s i.lane).pause, waiting := (laneAt s i.lane).waiting,
    stats := (laneAt s i.lane).stats }) g.ingress).trans h.ingress
  entries k o ho ne := by
    have first := h.entries k o ho ne
    exact (g.entries k o (by rw [first]; exact ho) ne).trans first

theorem keeps_onTableStats (f : TableStats → TableStats) : ResolveKeeps i s (onTableStats f s) :=
  ⟨rfl, fun _ _ => rfl, rfl, fun _ _ _ _ => rfl⟩

theorem keeps_raiseCause (c : Cause) : ResolveKeeps i s (raiseCause c s) :=
  ⟨rfl, fun _ _ => rfl, rfl, fun _ _ _ _ => rfl⟩

theorem keeps_setCounterSetAt (n : Nat) (c : CounterSet) : ResolveKeeps i s (setCounterSetAt n c s) :=
  ⟨rfl, fun _ _ => rfl, rfl, fun _ _ _ _ => rfl⟩

/-- A change of the ingress lane's pause record, decided messages and statistics alone. -/
theorem keeps_onLane {f : Lane → Lane}
    (h : ∀ x, { f x with pause := x.pause, waiting := x.waiting, stats := x.stats } = x) :
    ResolveKeeps i s (onLane i.lane f s) where
  frame := rfl
  others l hl := by rw [laneAt_onLane, if_neg hl]
  ingress := by rw [laneAt_onLane, if_pos rfl]; exact h _
  entries _ _ _ _ := rfl

theorem keeps_onLaneStats (f : LaneStats → LaneStats) :
    ResolveKeeps i s (onLaneStats i.lane f s) :=
  keeps_onLane (f := fun x => { x with stats := f x.stats }) fun _ => rfl

theorem keeps_chargeEntry (ref : Nat) (c : Charge) : ResolveKeeps i s (chargeEntry ref c s) := by
  unfold chargeEntry chargeSet
  split
  · exact .refl
  · split
    · exact keeps_setCounterSetAt _ _
    · exact .refl

/-- The entry at `ref` holds no key but the source's. -/
def SourceAt (i : ResolveInput) (ref : Nat) (s : State) : Prop :=
  ∀ o, (entryAt s ref).occupant = some o → o.key = ⟨i.domain, i.source⟩

theorem keeps_setEntry {ref : Nat} (e : Entry) (h : SourceAt i ref s) :
    ResolveKeeps i s (setEntry ref e s) where
  frame := rfl
  others _ _ := rfl
  ingress := rfl
  entries _ o ho ne := entryAt_setEntry_other _ _ fun hk => ne (h o (hk ▸ ho))

theorem keeps_setOccupant {ref : Nat} (o : Occupant) (h : SourceAt i ref s) :
    ResolveKeeps i s (setOccupant ref o s) := keeps_setEntry _ h

theorem sourceAt_setOccupant {ref : Nat} {o : Occupant} (h : o.key = ⟨i.domain, i.source⟩) :
    SourceAt i ref (setOccupant ref o s) := by
  intro o' ho
  rw [entryAt_setOccupant, if_pos rfl] at ho
  exact Option.some.inj ho ▸ h

theorem keeps_bringUpEntry {ref : Nat} (h : SourceAt i ref s) :
    ResolveKeeps i s (bringUpEntry ref s) := by
  unfold bringUpEntry
  split
  · exact .refl
  · exact keeps_setOccupant _ h

/-- A pause demand changes the pause record, the decided messages and the statistics alone (R97, R98). -/
theorem pauseDemand_frame (quantum : Word16) (x : Lane) :
    { pauseDemand quantum x with pause := x.pause, waiting := x.waiting, stats := x.stats } = x := by
  unfold pauseDemand
  split
  · rfl
  · split
    · rfl
    · split <;> rfl

theorem keeps_applyMeter {ref : Nat} (h : SourceAt i ref s) :
    ResolveKeeps i s (applyMeter ref i.lane s).1 := by
  have bring := keeps_bringUpEntry h
  unfold applyMeter
  split
  · exact .refl
  · dsimp only
    split
    · exact bring
    · split
      · exact bring.trans (keeps_chargeEntry _ _)
      · exact bring.trans (keeps_onLane (pauseDemand_frame _))

/-- The home test keeps to the source's entry, which stays the source's (R46 to R49). -/
theorem keeps_homeTest {ref : Nat} {o : Occupant} (h : SourceAt i ref s)
    (key : o.key = ⟨i.domain, i.source⟩) :
    ResolveKeeps i s (homeTest ref o i s).1 ∧ SourceAt i ref (homeTest ref o i s).1 := by
  unfold homeTest
  split
  · exact ⟨.refl, h⟩
  · split
    · exact ⟨.refl, h⟩
    · exact ⟨keeps_setOccupant _ h, sourceAt_setOccupant key⟩
    all_goals
      next a _ =>
      split
      · exact ⟨.refl, h⟩
      · have home := keeps_setOccupant
          { o with place := .unicast i.lane, life := .live (movedAging i.copy.moveLimit a).1 } h
        have source : SourceAt i ref (setOccupant ref
            { o with place := .unicast i.lane, life := .live (movedAging i.copy.moveLimit a).1 } s) :=
          sourceAt_setOccupant key
        have moved := home.trans (keeps_onLaneStats fun st => { st with moves := raise32 st.moves })
        unfold rehome
        dsimp only
        split
        · exact ⟨moved.trans ((keeps_onTableStats _).trans (keeps_raiseCause _)), source⟩
        · exact ⟨moved, source⟩

theorem keeps_knownSource {ref : Nat} {o : Occupant} (old : (entryAt s ref).occupant = some o)
    (key : o.key = ⟨i.domain, i.source⟩) : ResolveKeeps i s (knownSource ref o i s).1 := by
  have at_ : SourceAt i ref s := fun o' ho => Option.some.inj (old.symm.trans ho) ▸ key
  have hear := keeps_setOccupant { o with life := heard o.life } at_
  obtain ⟨home, source⟩ := keeps_homeTest (o := { o with life := heard o.life })
    (sourceAt_setOccupant (ref := ref) (o := { o with life := heard o.life }) (s := s) key) key
  unfold knownSource
  dsimp only
  split
  · exact hear
  · split
    · next e => rw [e] at home; exact hear.trans home
    · next e =>
      rw [e] at home source
      exact hear.trans (home.trans (keeps_applyMeter source))

theorem keeps_sourceStage : ResolveKeeps i s (sourceStage i s).1 := by
  unfold sourceStage
  split
  · exact .refl
  · next ref found =>
    obtain ⟨-, o, ho, key⟩ := searchKey_some found
    rw [ho]
    exact keeps_knownSource ho key

theorem keeps_attachedTo (set : Option Nat) (owner : Pair) :
    ResolveKeeps i s (attachedTo set owner s) := by
  cases set with
  | none => exact .refl
  | some n => exact keeps_setCounterSetAt _ _

theorem keeps_allocateCounted {ref : Nat} (o : Occupant) (set : Option Nat)
    (free : (entryAt s ref).occupant = none) : ResolveKeeps i s (allocateCounted ref o set s) := by
  refine (keeps_attachedTo set _).trans ⟨rfl, fun _ _ => rfl, rfl, fun k p hp _ => ?_⟩
  refine entryAt_setEntry_other _ _ fun hk => ?_
  rw [hk, entryAt_attachedTo, free] at hp
  cases hp

theorem keeps_learn : ResolveKeeps i s (learn i s).1 := by
  unfold learn
  split
  · exact (keeps_onTableStats fun st => { st with learnFailures := raise32 st.learnFailures }).trans
      ((keeps_onLaneStats fun st => { st with learnFailures := raise32 st.learnFailures }).trans
        (keeps_raiseCause _))
  · next ref place =>
    unfold learnAt
    dsimp only
    rw [autoCount_allocate]
    exact (keeps_allocateCounted _ _ (freePlace_some place).2).trans
      ((keeps_onTableStats fun st => { st with learned := raise32 st.learned }).trans
        (keeps_onLaneStats fun st => { st with learns := raise32 st.learns }))

theorem keeps_resolveStages : ResolveKeeps i s (resolveStages i s).1 := by
  have stage := keeps_sourceStage (i := i) (s := s)
  unfold resolveStages
  split
  · exact .refl
  · split
    · next e => rw [e] at stage; exact stage
    · next e =>
      rw [e] at stage
      refine stage.trans ?_
      unfold deliverAndLearn
      dsimp only
      split
      · exact keeps_learn
      · split <;> exact .refl

end

/-- What a resolve in progress makes of the part when its effects are made. -/
theorem performResolve_eq {i : ResolveInput} {s : State} (h : s.engine = .resolving i) :
    performResolve s =
      { (resolveStages i s).1 with engine := .resolved i (resolveStages i s).2 s.occupancy } := by
  unfold performResolve
  rw [h]

/-- Settles O25: each stage of the resolve keeps what `ResolveKeeps` lists. -/
theorem resolveFrame : Obligations.ResolveFrame := by
  intro i s h
  have keeps := keeps_resolveStages (i := i) (s := s)
  refine ⟨performResolve s, act_awake _ h.awake, ?_⟩
  rw [performResolve_eq h.engine]
  exact ⟨keeps.frame, keeps.others, keeps.ingress, keeps.entries⟩

/-! ### Whole operations and their parts -/

/-- An operation of the Command Unit or the sweep is its grant and then its finish, or is not due. -/
theorem operationParts_compose {offered : State → Bool} {grant finish : State → State} {s : State}
    (h : awake s) (keeps : (grant s).resetLow = s.resetLow) :
    operationParts offered grant finish .whole s = .next s ∧
      operationParts offered grant finish .grant s = .next s ∨
    ∃ t, operationParts offered grant finish .grant s = .next t ∧
      operationParts offered grant finish .finish t = operationParts offered grant finish .whole s := by
  obtain ⟨due, idle, -⟩ := operationParts_awake offered grant finish h
  cases offers : offered s with
  | false => exact .inl (idle offers)
  | true =>
    obtain ⟨whole, granted⟩ := due offers
    refine .inr ⟨grant s, granted, ?_⟩
    rw [whole]
    exact (operationParts_awake offered grant finish (keeps.trans h)).2.2

/-- The grant of READ_TABLE_STATS leaves the reset pin's level. -/
theorem grantTableStats_resetLow (s : State) : (grantTableStats s).resetLow = s.resetLow := by
  unfold grantTableStats
  dsimp only
  split
  · split <;> rfl
  · rfl

/-- A debit leaves everything but the entries. -/
theorem debitEntry_frame (ref bytes : Nat) (s : State) :
    { debitEntry ref bytes s with entries := s.entries } = s := by
  unfold debitEntry
  split <;> rfl

/-- A charge leaves everything but the counter sets. -/
theorem chargeEntry_frame (ref : Nat) (c : Charge) (s : State) :
    { chargeEntry ref c s with counterSets := s.counterSets } = s := by
  unfold chargeEntry chargeSet
  split
  · rfl
  · split <;> rfl

/-- A retirement leaves the reset pin's level. -/
theorem retire_resetLow (ref : Nat) (c : RetireCause) (s : State) :
    (retire ref c s).resetLow = s.resetLow := by
  cases old : (entryAt s ref).occupant with
  | none => rw [retire_free c old]
  | some o => exact (congrArg State.resetLow (retire_frame c old) :)

theorem settleSource_resetLow (i : SettleInput) (ref : Nat) (s : State) :
    (settleSource i ref s).resetLow = s.resetLow := by
  have confirm (u : State) : (confirmOrReject i ref u).resetLow = u.resetLow := by
    unfold confirmOrReject
    split
    · rfl
    · split
      · split
        · rfl
        · split
          · exact retire_resetLow _ _ _
          · rfl
      · rfl
  exact (confirm _).trans ((congrArg State.resetLow (debitEntry_frame _ _ _) :).trans
    (congrArg State.resetLow (chargeEntry_frame _ _ _) :))

theorem settlePart_resetLow (p : Option Pair) {work : Nat → State → State}
    (h : ∀ ref u, (work ref u).resetLow = u.resetLow) (s : State) :
    (settlePart p work s).1.resetLow = s.resetLow := by
  unfold settlePart
  split
  · rfl
  · split
    · exact h _ _
    · rfl

theorem settleWork_resetLow (i : SettleInput) (s : State) :
    (settleWork i s).resetLow = s.resetLow := by
  have source := settlePart_resetLow i.record.source (settleSource_resetLow i) s
  have destination (u : State) := settlePart_resetLow i.record.destination (work := settleDestination i)
    (fun ref v => by
      unfold settleDestination
      split
      · exact (congrArg State.resetLow (chargeEntry_frame _ _ _) :)
      · rfl) u
  unfold settleWork
  dsimp only
  split <;> exact (destination _).trans source

/-- What a settle operation in progress makes of the part when its effects are made. -/
theorem performSettle_eq {i : SettleInput} {s : State} (h : s.engine = .settling i) :
    performSettle s = { settleWork i s with engine := .settled i.lane i.tag s.occupancy } := by
  unfold performSettle
  rw [h]

/-- A resolve whose effects are made has none to make. -/
theorem performResolve_resolved {i : ResolveInput} {r : ResolveResult} {before : Occupancy} {s : State}
    (h : s.engine = .resolved i r before) : performResolve s = s := by
  unfold performResolve
  rw [h]

/-- A settle operation whose effects are made has none to make. -/
theorem performSettle_settled {l : LaneNo} {t : TagNo} {before : Occupancy} {s : State}
    (h : s.engine = .settled l t before) : performSettle s = s := by
  unfold performSettle
  rw [h]

theorem resolve_compose {s : State} (h : awake s) :
    exec (.resolve .whole) s = .next s ∧ exec (.resolve .grant) s = .next s ∨
    ∃ t u, exec (.resolve .grant) s = .next t ∧ exec (.resolve .perform) t = .next u ∧
      exec (.resolve .finish) u = exec (.resolve .whole) s ∧
      exec (.resolve .finish) t = exec (.resolve .whole) s := by
  have whole := act_awake (fun s => if (resolveOffer s).isSome then finishResolve (grantResolve s) else s) h
  have grant := act_awake grantResolve h
  cases offer : resolveOffer s with
  | none =>
    refine .inl ⟨whole.trans (by simp [offer]), grant.trans ?_⟩
    unfold grantResolve
    rw [offer]
  | some i =>
    have engine : (grantResolve s).engine = .resolving i := by
      unfold grantResolve
      rw [offer]
      rfl
    have awake_t : awake (grantResolve s) := by
      unfold grantResolve
      rw [offer]
      exact h
    have made := performResolve_eq engine
    have awake_u : awake (performResolve (grantResolve s)) := by
      rw [made]
      exact (congrArg State.resetLow keeps_resolveStages.frame :).trans awake_t
    have whole' : exec (.resolve .whole) s = .next (finishResolve (grantResolve s)) :=
      whole.trans (by simp [offer])
    refine .inr ⟨grantResolve s, performResolve (grantResolve s), grant, act_awake _ awake_t, ?_, ?_⟩
    · rw [whole']
      refine (act_awake finishResolve awake_u).trans ?_
      unfold finishResolve
      rw [performResolve_resolved (s := performResolve (grantResolve s)) (by rw [made])]
    · rw [whole']
      exact act_awake finishResolve awake_t

theorem settleOperation_compose {s : State} (h : awake s) :
    exec (.settleOperation .whole) s = .next s ∧ exec (.settleOperation .grant) s = .next s ∨
    ∃ t u, exec (.settleOperation .grant) s = .next t ∧ exec (.settleOperation .perform) t = .next u ∧
      exec (.settleOperation .finish) u = exec (.settleOperation .whole) s ∧
      exec (.settleOperation .finish) t = exec (.settleOperation .whole) s := by
  have whole := act_awake (fun s => if (settleOffer s).isSome then finishSettle (grantSettle s) else s) h
  have grant := act_awake grantSettle h
  cases offer : settleOffer s with
  | none =>
    refine .inl ⟨whole.trans (by simp [offer]), grant.trans ?_⟩
    unfold grantSettle
    rw [offer]
  | some i =>
    have engine : (grantSettle s).engine = .settling i := by
      unfold grantSettle
      rw [offer]
      rfl
    have awake_t : awake (grantSettle s) := by
      unfold grantSettle
      rw [offer]
      exact h
    have made := performSettle_eq engine
    have awake_u : awake (performSettle (grantSettle s)) := by
      rw [made]
      exact (settleWork_resetLow i (grantSettle s)).trans awake_t
    have whole' : exec (.settleOperation .whole) s = .next (finishSettle (grantSettle s)) :=
      whole.trans (by simp [offer])
    refine .inr ⟨grantSettle s, performSettle (grantSettle s), grant, act_awake _ awake_t, ?_, ?_⟩
    · rw [whole']
      refine (act_awake finishSettle awake_u).trans ?_
      unfold finishSettle
      rw [performSettle_settled (s := performSettle (grantSettle s)) (by rw [made])]
    · rw [whole']
      exact act_awake finishSettle awake_t

/-- Settles O16: every part begins where the part before it left off. -/
theorem wholeIsItsParts : Obligations.WholeIsItsParts := by
  refine ⟨fun f mem s h => ?_, fun f mem s h => ?_⟩
  · simp only [List.mem_cons, List.not_mem_nil, or_false] at mem
    rcases mem with rfl | rfl | rfl | rfl | rfl | rfl | rfl | rfl | rfl | rfl | rfl | rfl | rfl | rfl | rfl
    case inr.inr.inr.inr.inr.inr.inr.inr.inr.inr.inr.inl =>
      exact operationParts_compose h (grantTableStats_resetLow s)
    all_goals
      simp only [exec, execInsert, execUpdate, execRemove, execRemoveKey, execFind, execRead, execAttach,
        execDetach, execSetHash, execSetSpillMark, execFlush, execCount, execSearch, execSweepStep,
        tableCommand, commandOperation]
      exact operationParts_compose h rfl
  · simp only [List.mem_cons, List.not_mem_nil, or_false] at mem
    rcases mem with rfl | rfl
    · exact resolve_compose h
    · exact settleOperation_compose h

end Sys2Proof.Machine

namespace Sys2Proof.Machine

-- One proof at a time: the whole text then compiles in few threads.
set_option Elab.async false

/-! ### An allocation together with its counter set -/

/-- What an allocation with its set does to the entries. -/
theorem entryAt_allocateCounted (ref k : Nat) (o : Occupant) (set : Option Nat) (s : State) :
    entryAt (allocateCounted ref o set s) k =
      if k = ref then ⟨(entryAt s ref).generation + 1, some { o with counterSet := set }⟩
      else entryAt s k := by
  unfold allocateCounted
  rw [entryAt_allocate, entryAt_attachedTo, entryAt_attachedTo]

/-- What an allocation with its set does to the counter sets. -/
theorem counterSetAt_allocateCounted (ref n : Nat) (o : Occupant) (set : Option Nat) (s : State) :
    counterSetAt (allocateCounted ref o set s) n =
      if set = some n then ⟨.attached ⟨ref, (entryAt s ref).generation + 1⟩, .zero⟩
      else counterSetAt s n := by
  cases set with
  | none => rfl
  | some m =>
    refine (counterSetAt_setCounterSetAt m n ⟨.attached ⟨ref, (entryAt s ref).generation + 1⟩, .zero⟩
      s).trans ?_
    simp only [Option.some.injEq, eq_comm (a := n)]

/-- An allocation with its set touches the entries, the sets and the occupancy counts alone. -/
theorem allocateCounted_frame (ref : Nat) (o : Occupant) (set : Option Nat) (s : State) :
    { allocateCounted ref o set s with entries := s.entries, counterSets := s.counterSets } =
      { s with occupancy := occupied ref s.occupancy } := by
  cases set <;> rfl

/-! ### Learning -/

/-- A resolve past the gate draws no DROP there (R40, R41, R42). -/
theorem gateChecks_pass {i : ResolveInput} {s : State} (h : ResolvingPast i s) :
    gateChecks i = none := by
  unfold gateChecks memberOf
  rw [if_neg (by simp [h.enabled]), if_neg (by rw [h.member]; simp), if_neg (by simp [h.source])]

/-- The stages of a resolve whose source is unknown go straight to the destination (R43). -/
theorem resolveStages_unknown {i : ResolveInput} {s : State} (h : ResolvingUnknown i s) :
    resolveStages i s = deliverAndLearn i none s := by
  have stage : sourceStage i s = (s, none, none) := by
    unfold sourceStage
    rw [h.notFound]
  unfold resolveStages
  rw [gateChecks_pass h.toResolvingPast]
  dsimp only
  rw [stage]

/-- Learning is attempted when its four conditions stand (R58). -/
theorem deliverAndLearn_learns {i : ResolveInput} {s : State} {v : Verdict} {d : Option Nat}
    (destination : destinationStage i s = (v, d)) (kept : v.action ≠ .drop)
    (domain : i.copy.learning = true) (lane : (laneAt s i.lane).learning = true) :
    deliverAndLearn i none s =
      ((learn i s).1, ⟨v, (learn i s).2, (learn i s).2.isSome, d.map (pairAt s)⟩) := by
  have due : learningDue i none v s = true := by
    simp [learningDue, kept, domain, lane]
  unfold deliverAndLearn
  rw [destination]
  dsimp only
  rw [if_pos due]

/-- The part after a station was learned at `ref`: the place allocated with its set, and the lane's and the
table's statistics (R59, R60). -/
def learnedAt (i : ResolveInput) (ref : Nat) (s : State) : State :=
  onLaneStats i.lane (fun st => { st with learns := raise32 st.learns })
    (onTableStats (fun st => { st with learned := raise32 st.learned })
      (allocateCounted ref (learnedOccupant i s) (autoSet i s) s))

/-- With a FREE place learning allocates it, and hands back the pair of the new entry (R59, R60). -/
theorem learn_at {i : ResolveInput} {s : State} {ref : Nat}
    (place : freePlace s ⟨i.domain, i.source⟩ = some ref) :
    learn i s = (learnedAt i ref s, some ⟨ref, (entryAt s ref).generation + 1⟩) := by
  unfold learn learnAt
  rw [place]
  dsimp only
  rw [autoCount_allocate]
  have pair : pairAt (allocateCounted ref (learnedOccupant i s) (autoSet i s) s) ref =
      ⟨ref, (entryAt s ref).generation + 1⟩ := by
    rw [pairAt, entryAt_allocateCounted, if_pos rfl]
  exact congrArg (fun p => (learnedAt i ref s, some p)) pair

/-- Learning changes of the lanes the ingress lane's statistic alone (R60). -/
theorem laneAt_learnedAt (i : ResolveInput) (ref : Nat) (s : State) (l : LaneNo) :
    laneAt (learnedAt i ref s) l =
      if l = i.lane then
        { laneAt s i.lane with
          stats := { (laneAt s i.lane).stats with learns := raise32 (laneAt s i.lane).stats.learns } }
      else laneAt s l := by
  have same (k : LaneNo) : laneAt (allocateCounted ref (learnedOccupant i s) (autoSet i s) s) k =
      laneAt s k := by cases autoSet i s <;> rfl
  unfold learnedAt onLaneStats
  rw [laneAt_onLane]
  simp only [laneAt_onTableStats, same]

/-- Learning touches the table, the sets, the lanes and a statistic alone (R59, R60). -/
theorem learnedAt_frame (i : ResolveInput) (ref : Nat) (s : State) :
    { learnedAt i ref s with entries := s.entries, counterSets := s.counterSets, lanes := s.lanes } =
      { s with
        occupancy := occupied ref s.occupancy
        tableStats := { s.tableStats with learned := raise32 s.tableStats.learned } } := by
  exact congrArg (fun u : State => { u with
    lanes := s.lanes, tableStats := { u.tableStats with learned := raise32 u.tableStats.learned } })
    (allocateCounted_frame ref (learnedOccupant i s) (autoSet i s) s)

/-- Without a FREE place learning fails (R61). -/
theorem learn_full {i : ResolveInput} {s : State}
    (place : freePlace s ⟨i.domain, i.source⟩ = none) : learn i s = (learnFailure i s, none) := by
  unfold learn
  rw [place]

/-- Settles O23: the resolve goes straight to learning, which allocates with the set or fails. -/
theorem learningOutcomes : Obligations.LearningOutcomes := by
  refine ⟨fun i v d ref s h destination kept domain lane place => ?_,
    fun i v d s h destination kept domain lane place => ?_⟩
  · have stages := (resolveStages_unknown h).trans (deliverAndLearn_learns destination kept domain lane)
    rw [learn_at place] at stages
    have made : performResolve s = { learnedAt i ref s with
        engine := .resolved i ⟨v, some ⟨ref, (entryAt s ref).generation + 1⟩, true, d.map (pairAt s)⟩
          s.occupancy } := by
      rw [performResolve_eq h.engine, stages]
      rfl
    have entry (k : Nat) := entryAt_allocateCounted ref k (learnedOccupant i s) (autoSet i s) s
    have lane := laneAt_learnedAt i ref s
    intro p set e
    refine ⟨performResolve s, act_awake _ h.awake, ?_⟩
    rw [made]
    refine ⟨(entry ref).trans (if_pos rfl), fun k hk => (entry k).trans (if_neg hk),
      fun n => counterSetAt_allocateCounted ref n (learnedOccupant i s) (autoSet i s) s,
      fun l hl => (lane l).trans (if_neg hl),
      (lane i.lane).trans (if_pos rfl), ?_⟩
    exact congrArg (fun u : State => { u with
      engine := .resolved i ⟨v, some p, true, d.map (pairAt s)⟩ s.occupancy }) (learnedAt_frame i ref s)
  · refine (act_awake _ h.awake).trans ?_
    have stages := (resolveStages_unknown h).trans (deliverAndLearn_learns destination kept domain lane)
    rw [learn_full place] at stages
    rw [performResolve_eq h.engine, stages]
    rfl

/-! ### Results handed back -/

/-- SPILL_HIGH at the end of an operation, in one equation (R15). -/
theorem raiseSpillHigh_eq (before : Occupancy) (s : State) :
    raiseSpillHigh before s =
      { s with
        irqPending := if s.spillMark ≠ 0 ∧ before.spill + 1 = s.spillMark ∧
            s.occupancy.spill = s.spillMark then s.irqPending ||| 0x0400#16 else s.irqPending } := by
  unfold raiseSpillHigh
  split
  · rfl
  · rfl

/-- The close of a resolve, field by field (R39, R134). -/
theorem finishResolve_resolved {i : ResolveInput} {r : ResolveResult} {before : Occupancy} {s : State}
    (h : s.engine = .resolved i r before) :
    finishResolve s =
      { s with
        engine := .idle
        irqPending := if s.spillMark ≠ 0 ∧ before.spill + 1 = s.spillMark ∧
            s.occupancy.spill = s.spillMark then s.irqPending ||| 0x0400#16 else s.irqPending
        lanes := put .reset s.lanes i.lane.val (takeVerdict i.tag r s.ms (laneAt s i.lane)) } := by
  unfold finishResolve
  rw [performResolve_resolved h]
  unfold closeResolve
  rw [h]
  exact raiseSpillHigh_eq _ _

/-- The close of a settle operation, field by field (R137). -/
theorem finishSettle_settled {l : LaneNo} {t : TagNo} {before : Occupancy} {s : State}
    (h : s.engine = .settled l t before) :
    finishSettle s =
      { s with
        engine := .idle
        lanes := put .reset s.lanes l.val (takeSettled t (laneAt s l)) } := by
  unfold finishSettle
  rw [performSettle_settled h]
  unfold closeSettle
  rw [h]
  rfl

/-- A result is discarded exactly when its item in hand is cancelled (R133, R134). -/
theorem resultDiscarded_of_inHand {x : Lane} {item : Item} {cancelled : Bool}
    (h : x.inHand = some ⟨item, cancelled⟩) : resultDiscarded x = cancelled := by
  unfold resultDiscarded
  rw [h]

/-- A verdict on a cancelled item is discarded (R134). -/
theorem takeVerdict_cancelled {x : Lane} {item : Item} (t : TagNo) (r : ResolveResult) (now : Time)
    (h : x.inHand = some ⟨item, true⟩) : takeVerdict t r now x = { x with inHand := none } := by
  unfold takeVerdict
  rw [resultDiscarded_of_inHand h]
  rfl

/-- A verdict on an item not cancelled is acted on (R134). -/
theorem takeVerdict_taken {x : Lane} {item : Item} (t : TagNo) (r : ResolveResult) (now : Time)
    (h : x.inHand = some ⟨item, false⟩) :
    takeVerdict t r now x = { actOnVerdict t r now x with inHand := none } := by
  unfold takeVerdict
  rw [resultDiscarded_of_inHand h]
  rfl

/-- Settles O26: the closes field by field, then the lane's part by the verdict's action. -/
theorem resultsHandedBack : Obligations.ResultsHandedBack := by
  refine ⟨fun i r before s h engine => ?_, fun l tag before s h engine => ⟨?_, ?_⟩⟩
  · intro x pending handedTo timer
    have finish : exec (.resolve .finish) s = .next
        { s with
          engine := .idle, irqPending := pending
          lanes := put .reset s.lanes i.lane.val (takeVerdict i.tag r s.ms x) } :=
      (act_awake _ h).trans (congrArg _ (finishResolve_resolved engine))
    refine ⟨fun item hand => ?_, fun item hand => ⟨fun action => ?_, fun action => ?_, fun action => ?_⟩⟩
    · rw [finish, takeVerdict_cancelled _ _ _ hand]
    all_goals
      rw [finish, takeVerdict_taken _ _ _ hand]
      unfold actOnVerdict
      rw [action]
      rfl
  · intro item hand
    refine (act_awake finishSettle h).trans ?_
    rw [finishSettle_settled engine]
    unfold takeSettled
    rw [resultDiscarded_of_inHand hand]
    rfl
  · intro item hand
    refine (act_awake finishSettle h).trans ?_
    rw [finishSettle_settled engine]
    unfold takeSettled
    rw [resultDiscarded_of_inHand hand]
    rfl

end Sys2Proof.Machine

namespace Sys2Proof.Machine

-- One proof at a time: the whole text then compiles in few threads.
set_option Elab.async false

/-! ### Retirement after retirement -/

/-- A saturating statistic counts as `upOne` does (R18). -/
theorem raise32_eq (n : Nat) : raise32 n = upOne n := rfl

/-- An entry that stands alike names a set alike. -/
theorem namesSet_congr {s u : State} {r : Nat} (same : entryAt u r = entryAt s r) :
    namesSet u r = namesSet s r := by
  unfold namesSet
  rw [same]

theorem NamesSet_congr {s u : State} {r n : Nat} {o : Occupant} (same : entryAt u r = entryAt s r) :
    NamesSet u r o n ↔ NamesSet s r o n := by
  unfold NamesSet
  rw [same]

/-- One retirement more, of an entry that the ones before it left alone. -/
theorem RetiredAll.snoc {refs : List Nat} {s u t : State} {r : Nat} (h : RetiredAll refs s u)
    (g : RetiredAll [r] u t) (new : r ∉ refs) (same : entryAt u r = entryAt s r)
    (reclaim : u.autoReclaim = s.autoReclaim) (kept : ∀ k ∈ refs, entryAt t k = entryAt u k) :
    RetiredAll (refs ++ [r]) s t := by
  have either {k : Nat} (hk : k ∈ refs ++ [r]) : k ∈ refs ∨ k = r := by simpa using hk
  have last : r ∈ refs ++ [r] := by simp
  have early {k : Nat} (hk : k ∈ refs) : k ∈ refs ++ [r] := List.mem_append_left _ hk
  have untouched {n : Nat} (hn : ∀ o, ¬NamesSet s r o n) : counterSetAt t n = counterSetAt u n := by
    refine g.others n fun k hk o names => ?_
    obtain rfl := List.mem_singleton.1 hk
    exact hn o ((NamesSet_congr same).1 names)
  constructor
  · intro k hk
    rcases either hk with hk | rfl
    · rw [kept k hk, h.entries k hk]
    · rw [g.entries k List.mem_cons_self, same]
  · rw [g.occupancy, h.occupancy]
    simp only [List.countP_append, List.length_append, Nat.sub_sub, Nat.add_assoc]
  · intro n hn
    rw [untouched fun o => hn r last o, h.others n fun k hk => hn k (early hk)]
  · intro hr k hk o n names
    by_cases named : ∃ o', NamesSet s r o' n
    · obtain ⟨o', names'⟩ := named
      exact g.reclaimed (reclaim.trans hr) r List.mem_cons_self o' n ((NamesSet_congr same).2 names')
    · rcases either hk with hk | rfl
      · rw [untouched fun o' names' => named ⟨o', names'⟩]
        exact h.reclaimed hr k hk o n names
      · exact absurd ⟨o, names⟩ named
  · intro hr k hk o n names alone
    rcases either hk with hk | rfl
    · have ne : r ≠ k := fun e => new (e ▸ hk)
      rw [untouched (alone r last ne)]
      exact h.kept hr k hk o n names fun k' hk' => alone k' (early hk')
    · have before : counterSetAt u n = counterSetAt s n :=
        h.others n fun k' hk' => alone k' (early hk') fun e => new (e ▸ hk')
      rw [← before]
      refine g.kept (reclaim.trans hr) k List.mem_cons_self o n ((NamesSet_congr same).2 names) ?_
      exact fun k' hk' ne => absurd (List.mem_singleton.1 hk') ne
  · rw [g.orphaned, h.orphaned, reclaim, List.countP_append, List.countP_singleton,
      List.countP_singleton, namesSet_congr same]
    split <;> omega

/-- The bits of ORPHANS_HIGH raised by one retirement after others come to one bit (R107). -/
theorem orphansBit_snoc {refs : List Nat} {s u : State} {r : Nat} (same : entryAt u r = entryAt s r)
    (reclaim : u.autoReclaim = s.autoReclaim) (mark : u.orphanMark = s.orphanMark)
    (orphaned : u.orphaned = s.orphaned + if s.autoReclaim then 0 else refs.countP (namesSet s)) :
    orphansBit refs s ||| orphansBit [r] u = orphansBit (refs ++ [r]) s := by
  by_cases hr : s.autoReclaim = true
  · rw [orphansBit_of_reclaim _ hr, orphansBit_of_reclaim _ (reclaim.trans hr),
      orphansBit_of_reclaim _ hr]
    rfl
  · rw [Bool.not_eq_true] at hr
    simp only [hr, Bool.false_eq_true, if_false] at orphaned
    unfold orphansBit
    rw [reclaim, mark, orphaned, List.countP_append, List.countP_singleton, List.countP_singleton,
      namesSet_congr same]
    simp only [hr, true_and]
    by_cases hm : s.orphanMark = 0
    · simp [hm]
    · simp only [ne_eq, hm, not_false_eq_true, true_and]
      generalize (if namesSet s r = true then 1 else 0) = one
      by_cases first : s.orphaned < s.orphanMark ∧ s.orphanMark ≤ s.orphaned + refs.countP (namesSet s)
      · rw [if_pos first, if_neg (by omega), if_pos (by omega)]
        rfl
      · rw [if_neg first]
        refine BitVec.zero_or.trans (if_congr ?_ rfl rfl)
        omega

/-- A run of visits retired the entries at `gone` and no other, and left the table statistics at `stats`. -/
structure SteppedOver (gone : List Nat) (stats : TableStats) (s t : State) : Prop where
  retired : RetiredAll gone s t
  frame : { t with
    entries := s.entries, counterSets := s.counterSets, occupancy := s.occupancy,
    orphaned := s.orphaned } =
    { s with tableStats := stats, irqPending := s.irqPending ||| orphansBit gone s }

/-- Before the first visit nothing is retired. -/
theorem SteppedOver.nil (s : State) : SteppedOver [] s.tableStats s s := by
  constructor
  · constructor <;> simp
  · rw [orphansBit_of_none rfl, BitVec.or_zero]

/-- A visit retires one entry more. -/
theorem SteppedOver.retire {gone : List Nat} {stats : TableStats} {s u : State} {r : Nat} {o : Occupant}
    (c : RetireCause) (h : SteppedOver gone stats s u) (new : r ∉ gone)
    (same : entryAt u r = entryAt s r) (old : (entryAt s r).occupant = some o) :
    SteppedOver (gone ++ [r]) (countRetirement c stats) s (retire r c u) := by
  have old' : (entryAt u r).occupant = some o := by rw [same]; exact old
  have reclaim : u.autoReclaim = s.autoReclaim := (congrArg State.autoReclaim h.frame :)
  have mark : u.orphanMark = s.orphanMark := (congrArg State.orphanMark h.frame :)
  have statsOf : u.tableStats = stats := (congrArg State.tableStats h.frame :)
  have irq : u.irqPending = s.irqPending ||| orphansBit gone s := (congrArg State.irqPending h.frame :)
  have bits := orphansBit_snoc same reclaim mark h.retired.orphaned
  constructor
  · refine h.retired.snoc (retiredAll_retire c old') new same reclaim fun k hk => ?_
    rw [entryAt_retire c old', if_neg fun e : k = r => new (e ▸ hk)]
  · rw [← bits, ← BitVec.or_assoc, ← irq, ← statsOf]
    exact (congrArg (fun v : State => { v with
      entries := s.entries, counterSets := s.counterSets, occupancy := s.occupancy,
      orphaned := s.orphaned }) (retire_frame c old')).trans
      (congrArg (fun v : State => { v with
        tableStats := countRetirement c u.tableStats
        irqPending := u.irqPending ||| orphansBit [r] u }) h.frame)

/-- A visit writes an entry that is not among the retired. -/
theorem SteppedOver.setOccupant {gone : List Nat} {stats : TableStats} {s u : State} {r : Nat}
    (o : Occupant) (h : SteppedOver gone stats s u) (new : r ∉ gone) :
    SteppedOver gone stats s (setOccupant r o u) where
  retired := { h.retired with
    entries := fun k hk => by
      rw [entryAt_setOccupant, if_neg fun e : k = r => new (e ▸ hk)]
      exact h.retired.entries k hk }
  frame := h.frame

/-- The refs of one step are apart (R74, R162). -/
theorem nodup_stepRefs (k : Nat) : (stepRefs k).Nodup := by
  unfold stepRefs
  split
  · simp [bucketRefs]
  · exact List.nodup_range'

/-! ### REMOVE and REMOVE_KEY -/

/-- A completion changes nothing that a retirement is read by. -/
theorem RetiredAll.finished {refs : List Nat} {s t : State} (n : SlotNo) (b : Block) (st : Status)
    (values : List Word16) (h : RetiredAll refs s t) : RetiredAll refs s (finished n b st values t) :=
  { h with }

/-- A host retirement that completes its command, in a granted state. -/
theorem retire_ended {n : SlotNo} {b : Block} {ref : Nat} {o : Occupant} {s : State}
    (old : (entryAt s ref).occupant = some o) (values : List Word16) :
    let t := finished n b .ok values (retire ref .hostRemove { s with engine := .idle })
    RetiredAll [ref] s t ∧ (∀ k, k ≠ ref → entryAt t k = entryAt s k) ∧
      { t with
        entries := s.entries, counterSets := s.counterSets, occupancy := s.occupancy,
        orphaned := s.orphaned } =
        ended n b .ok values
          { s with
            tableStats := { s.tableStats with hostRemoved := upOne s.tableStats.hostRemoved }
            irqPending := s.irqPending ||| orphansBit [ref] s } := by
  have retired := retiredAll_retire (s := { s with engine := .idle }) .hostRemove old
  have frame := retire_frame (s := { s with engine := .idle }) .hostRemove old
  refine ⟨{ retired with }, fun k hk => ?_, ?_⟩
  · exact (entryAt_retire (s := { s with engine := .idle }) .hostRemove old k).trans (if_neg hk)
  · exact congrArg (Sys2Proof.Machine.finished n b .ok values) frame

/-- Settles O38: both commands come to one retirement and its completion. -/
theorem removeRetires : Obligations.RemoveRetires := by
  intro n b ref o s old retired
  have values : pairWords (pairAt s ref) =
      [BitVec.ofNat 16 ref, (entryAt s ref).generation.setWidth 16] := rfl
  refine ⟨fun h word lt generation => ?_, fun key h named found => ?_⟩
  · refine ⟨_, (tableCommand_finish removeWork h).trans ?_, retire_ended old _⟩
    have pair : pairOf b = some (pairAt s ref) := by
      have toNat : (BitVec.ofNat 16 ref).toNat = ref := by
        rw [BitVec.toNat_ofNat]
        omega
      unfold pairOf refOf
      rw [word, toNat, if_pos lt]
      exact congrArg (fun g => some (⟨ref, g⟩ : Pair)) generation
    have now : current { s with engine := .idle } (pairAt s ref) = true := by
      have : (entryAt { s with engine := .idle } ref).occupant = some o := old
      simp only [current, pairAt, this]
      exact beq_self_eq_true _
    unfold removeWork
    rw [pair]
    dsimp only
    rw [if_pos now]
    rfl
  · refine ⟨_, (tableCommand_finish removeKeyWork h).trans ?_, retire_ended old _⟩
    have found' : searchKey { s with engine := .idle } key = some ref := found
    unfold removeKeyWork
    rw [named]
    dsimp only
    rw [found']
    rfl

/-! ### FLUSH -/

/-- The table statistics with `n` more entries flushed. -/
def flushedStats (n : Nat) (t : TableStats) : TableStats := { t with flushed := upOne^[n] t.flushed }

/-- One entry more flushed. -/
theorem flushedStats_succ (n : Nat) (t : TableStats) :
    countRetirement .flushMatch (flushedStats n t) = flushedStats (n + 1) t := by
  simp only [countRetirement, flushedStats, Function.iterate_succ_apply', raise32_eq]

/-- What FLUSH has made of `s` when it has examined the entries at `refs`: the matching ones are retired,
counted and tallied, and no other entry has changed (R165). -/
structure Flushed (q : Selector) (refs : List Nat) (s : State) (acc : State × Nat) : Prop where
  stepped : SteppedOver (refs.filter (matchesAt q s))
    (flushedStats (refs.filter (matchesAt q s)).length s.tableStats) s acc.1
  tally : acc.2 = (refs.filter (matchesAt q s)).length
  kept : ∀ k, k ∉ refs.filter (matchesAt q s) → entryAt acc.1 k = entryAt s k

/-- FLUSH examines one entry more. -/
theorem Flushed.snoc {q : Selector} {refs : List Nat} {s : State} {acc : State × Nat} {r : Nat}
    (h : Flushed q refs s acc) (new : r ∉ refs) : Flushed q (refs ++ [r]) s (flushAt q acc r) := by
  have fresh : r ∉ refs.filter (matchesAt q s) := fun hr => new (List.mem_of_mem_filter hr)
  have same := h.kept r fresh
  have examined : matchesAt q acc.1 r = matchesAt q s r := by
    unfold matchesAt
    rw [same]
  unfold flushAt
  rw [examined]
  by_cases hm : matchesAt q s r = true
  · have hits : (refs ++ [r]).filter (matchesAt q s) = refs.filter (matchesAt q s) ++ [r] := by
      simp [List.filter_append, hm]
    have occupied : ∃ o, (entryAt s r).occupant = some o := by
      unfold matchesAt at hm
      split at hm
      · cases hm
      · next o ho => exact ⟨o, ho⟩
    obtain ⟨o, old⟩ := occupied
    rw [if_pos hm]
    constructor
    · rw [hits, List.length_append, List.length_singleton, ← flushedStats_succ]
      exact h.stepped.retire .flushMatch fresh same old
    · rw [hits, List.length_append, List.length_singleton, ← h.tally]
    · intro k hk
      rw [hits, List.mem_append, not_or, List.mem_singleton] at hk
      rw [entryAt_retire _ (by rw [same]; exact old), if_neg hk.2]
      exact h.kept k hk.1
  · have hits : (refs ++ [r]).filter (matchesAt q s) = refs.filter (matchesAt q s) := by
      simp [List.filter_append, hm]
    rw [if_neg hm]
    constructor <;> rw [hits]
    · exact h.stepped
    · exact h.tally
    · exact h.kept

/-- A FLUSH step examines every entry of its step. -/
theorem flushed_foldl (q : Selector) (s : State) {refs : List Nat} (nodup : refs.Nodup) :
    Flushed q refs s (refs.foldl (flushAt q) (s, 0)) := by
  induction refs using List.reverseRecOn with
  | nil => exact ⟨SteppedOver.nil s, rfl, fun _ _ => rfl⟩
  | append_singleton refs r ih =>
    rw [List.nodup_append] at nodup
    rw [List.foldl_append]
    exact (ih nodup.1).snoc fun hr => nodup.2.2 r hr r List.mem_cons_self rfl

/-- Operands refused at a grant complete the walk (R164, log 10). -/
theorem walkWork_refused {c : Byte} {n : SlotNo} {b : Block} {w : Walk} {s : State}
    (step : Selector → Walk → State → StepFound) (atEnd : Status)
    (running : runningCode c s = some (n, b)) (walk : s.walk = some w)
    (refused : walkOperands w = none) :
    walkWork c step atEnd s =
      finished n b (if w.aborted then .aborted else .badArg) (walkValues w) s := by
  unfold walkWork
  rw [running, walk]
  dsimp only
  rw [refused, ← complete_eq]

/-- With its operands passed a walk makes its step, and goes on or completes (R164). -/
theorem walkWork_step {c : Byte} {n : SlotNo} {b : Block} {w : Walk} {q : Selector} {s : State}
    (step : Selector → Walk → State → StepFound) (atEnd : Status)
    (running : runningCode c s = some (n, b)) (walk : s.walk = some w)
    (operands : walkOperands w = some q) :
    walkWork c step atEnd s =
      afterStep n b (advanced w (step q w s).2.1) atEnd (step q w s).2.2 (step q w s).1 := by
  unfold walkWork
  rw [running, walk]
  dsimp only
  rw [operands]

/-- A walk that found nothing goes on, or completes when it was aborted or has made its last step (R145,
R169). -/
theorem afterStep_none (n : SlotNo) (b : Block) (w : Walk) (atEnd : Status) (s : State) :
    afterStep n b w atEnd none s =
      if w.aborted then finished n b .aborted (walkValues w) s
      else if 2056 ≤ w.cursor then finished n b atEnd (walkValues w) s
      else { s with walk := some w } := by
  unfold afterStep
  rw [complete_eq, complete_eq]

/-- Settles O43: the fold of the step retires the matches, and the walk goes on or completes. -/
theorem Settled.flushStep : Obligations.FlushStep := by
  intro n b w s h walk
  have run := commandOperation_finish (walkWork 0x10 Machine.flushStep .ok) h
  refine ⟨fun refused => ?_, fun q operands => ?_⟩
  · rw [walkWork_refused (s := { s with engine := .idle }) _ _ h.running walk refused] at run
    exact run
  · intro hits w' u done
    rw [walkWork_step (s := { s with engine := .idle }) _ _ h.running walk operands] at run
    obtain ⟨⟨retired, frame⟩, tally, kept⟩ :=
      flushed_foldl q { s with engine := .idle } (nodup_stepRefs w.cursor)
    have progress : advanced w (Machine.flushStep q w { s with engine := .idle }).2.1 = w' :=
      congrArg (advanced w) tally
    refine ⟨_, run, ?_⟩
    rw [progress, show (Machine.flushStep q w { s with engine := .idle }).2.2 = none from rfl, afterStep_none]
    by_cases aborted : w.aborted = true
    · rw [if_pos (show w'.aborted = true from aborted), if_pos aborted]
      exact ⟨{ retired with }, kept, congrArg (finished n b .aborted (walkValues w')) frame⟩
    · rw [if_neg (show ¬w'.aborted = true from aborted), if_neg aborted]
      by_cases last : 2055 ≤ w.cursor
      · rw [if_pos (show 2056 ≤ w'.cursor from Nat.succ_le_succ last), if_pos last]
        exact ⟨{ retired with }, kept, congrArg (finished n b .ok (walkValues w')) frame⟩
      · rw [if_neg (show ¬2056 ≤ w'.cursor from fun le => last (Nat.le_of_succ_le_succ le)), if_neg last]
        exact ⟨{ retired with }, kept, congrArg (fun v : State => { v with walk := some w' }) frame⟩

end Sys2Proof.Machine

namespace Sys2Proof.Machine

-- One proof at a time: the whole text then compiles in few threads.
set_option Elab.async false

/-! ### The sweep visit -/

/-- Why a visit retires an entry of this life, if it does (Table 4-2). -/
def visitCause : Life → Option RetireCause
  | .new a _ => if a.hit then none else some .sweepNew
  | .stale _ => some .sweepStale
  | _ => none

/-- The life a visit leaves an entry that it does not retire (Table 4-2). -/
def visitedLife : Life → Life
  | .new a origin => .new { a with hit := false } origin
  | .live a => if a.hit then .live (visitedAging a) else .stale (visitedAging a)
  | l => l

/-- An entry after its visit (Table 4-2). -/
def visitedEntry (e : Entry) : Entry :=
  ⟨e.generation, e.occupant.bind fun o =>
    if (visitCause o.life).isSome then none else some { o with life := visitedLife o.life }⟩

theorem visit_free {ref : Nat} {s : State} (free : (entryAt s ref).occupant = none) :
    visit ref s = s := by
  unfold visit
  rw [free]

@[simp] theorem visitCause_live (a : Aging) : visitCause (.live a) = none := rfl
@[simp] theorem visitCause_stale (a : Aging) : visitCause (.stale a) = some .sweepStale := rfl
@[simp] theorem visitCause_pinned : visitCause .pinned = none := rfl
theorem visitCause_new (a : Aging) (g : Origin) :
    visitCause (.new a g) = if a.hit then none else some .sweepNew := rfl

/-- A visit that retires (R76, R77). -/
theorem visit_retires {ref : Nat} {s : State} {o : Occupant} {c : RetireCause}
    (old : (entryAt s ref).occupant = some o) (cause : visitCause o.life = some c) :
    visit ref s = retire ref c s := by
  unfold visit
  rw [old]
  dsimp only
  split
  · next a g e =>
    rw [e, visitCause_new] at cause
    split at cause
    · cases cause
    · next miss => rw [if_neg miss, Option.some.inj cause]
  · next e => rw [e] at cause; cases cause
  · next e => rw [e] at cause; rw [Option.some.inj cause]
  · next e => rw [e] at cause; cases cause

/-- A visit that does not retire leaves a PINNED entry, and writes the life of any other (R76). -/
theorem visit_keeps {ref : Nat} {s : State} {o : Occupant}
    (old : (entryAt s ref).occupant = some o) (cause : visitCause o.life = none) :
    o.life = .pinned ∧ visit ref s = s ∨
      visit ref s = setOccupant ref { o with life := visitedLife o.life } s := by
  unfold visit
  rw [old]
  dsimp only
  split
  · next a g e =>
    rw [e, visitCause_new] at cause
    split at cause
    · next hit => rw [if_pos hit, e]; exact .inr rfl
    · cases cause
  · next a e =>
    rw [e]
    simp only [visitedLife]
    split <;> exact .inr rfl
  · next e => rw [e] at cause; cases cause
  · next e => exact .inl ⟨e, rfl⟩

/-- What a visit makes of the entries (R76, Table 4-2). -/
theorem entryAt_visit (ref k : Nat) (s : State) :
    entryAt (visit ref s) k = if k = ref then visitedEntry (entryAt s ref) else entryAt s k := by
  have there {t : State} {e : Entry} (h : entryAt t k = if k = ref then e else entryAt s k)
      (he : e = visitedEntry (entryAt s ref)) :
      entryAt t k = if k = ref then visitedEntry (entryAt s ref) else entryAt s k := he ▸ h
  have same {t : State} (h : t = s) (he : entryAt s ref = visitedEntry (entryAt s ref)) :
      entryAt t k = if k = ref then visitedEntry (entryAt s ref) else entryAt s k := by
    refine there ?_ he
    rw [h]
    split
    · next e => rw [e]
    · rfl
  cases old : (entryAt s ref).occupant with
  | none =>
    refine same (visit_free old) ?_
    simp only [visitedEntry, old, Option.bind_none]
    rw [← old]
  | some o =>
    cases cause : visitCause o.life with
    | some c =>
      rw [visit_retires old cause]
      exact there (entryAt_retire c old k) (by simp [visitedEntry, old, cause])
    | none =>
      have visited : visitedEntry (entryAt s ref) =
          ⟨(entryAt s ref).generation, some { o with life := visitedLife o.life }⟩ := by
        simp [visitedEntry, old, cause]
      rcases visit_keeps old cause with ⟨pinned, unmoved⟩ | written
      · refine same unmoved ?_
        rw [visited, pinned, show visitedLife .pinned = .pinned from rfl, ← pinned, ← old]
      · rw [written]
        exact there (entryAt_setOccupant ref k _ s) visited.symm

/-! ### A sweep step -/

/-- The entry at `r` is one that a visit retires for cause `c`. -/
def retiredFor (c : RetireCause) (s : State) (r : Nat) : Bool :=
  (entryAt s r).occupant.any fun o => visitCause o.life == some c

/-- The entry at `r` is one that a visit retires. -/
def retiredAt (s : State) (r : Nat) : Bool := retiredFor .sweepNew s r || retiredFor .sweepStale s r

/-- The table statistics with `n` more unconfirmed entries retired and `m` more aged out (R77). -/
def sweptStats (n m : Nat) (t : TableStats) : TableStats :=
  { t with unconfirmedRetired := upOne^[n] t.unconfirmedRetired, agedOut := upOne^[m] t.agedOut }

/-- What the sweep has made of `s` when it has visited the entries at `refs` (R74, R76, R77). -/
structure Swept (refs : List Nat) (s t : State) : Prop where
  stepped : SteppedOver (refs.filter (retiredAt s))
    (sweptStats (refs.countP (retiredFor .sweepNew s)) (refs.countP (retiredFor .sweepStale s))
      s.tableStats) s t
  visited : ∀ k, k ∈ refs → entryAt t k = visitedEntry (entryAt s k)
  others : ∀ k, k ∉ refs → entryAt t k = entryAt s k

/-- Why a visit retires an entry: as a NEW one without hit or as a STALE one (Table 4-2). -/
theorem visitCause_cases {l : Life} {c : RetireCause} (h : visitCause l = some c) :
    c = .sweepNew ∨ c = .sweepStale := by
  unfold visitCause at h
  split at h
  · split at h
    · cases h
    · exact .inl (Option.some.inj h).symm
  · exact .inr (Option.some.inj h).symm
  · cases h

/-- One retirement more in the statistics of the sweep (R77). -/
theorem sweptStats_succ {c : RetireCause} (h : c = .sweepNew ∨ c = .sweepStale) (n m : Nat)
    (t : TableStats) :
    countRetirement c (sweptStats n m t) =
      sweptStats (n + if c = .sweepNew then 1 else 0) (m + if c = .sweepStale then 1 else 0) t := by
  rcases h with rfl | rfl <;>
    simp [countRetirement, sweptStats, Function.iterate_succ_apply', raise32_eq]

/-- The sweep visits one entry more. -/
theorem Swept.snoc {refs : List Nat} {s t : State} {r : Nat} (h : Swept refs s t) (new : r ∉ refs) :
    Swept (refs ++ [r]) s (visit r t) := by
  have fresh : r ∉ refs.filter (retiredAt s) := fun hr => new (List.mem_of_mem_filter hr)
  have same := h.others r new
  have entries (k : Nat) : entryAt (visit r t) k =
      if k = r then visitedEntry (entryAt s r) else entryAt t k := by
    rw [entryAt_visit, same]
  have stats (c : RetireCause) : (refs ++ [r]).countP (retiredFor c s) =
      refs.countP (retiredFor c s) + if retiredFor c s r then 1 else 0 := by
    rw [List.countP_append, List.countP_singleton]
  refine ⟨?_, fun k hk => ?_, fun k hk => ?_⟩
  · have unretired (alike : retiredFor .sweepNew s r = false ∧ retiredFor .sweepStale s r = false) :
        (refs ++ [r]).filter (retiredAt s) = refs.filter (retiredAt s) ∧
        (refs ++ [r]).countP (retiredFor .sweepNew s) = refs.countP (retiredFor .sweepNew s) ∧
        (refs ++ [r]).countP (retiredFor .sweepStale s) = refs.countP (retiredFor .sweepStale s) := by
      rw [stats, stats]
      simp [List.filter_append, retiredAt, alike]
    cases old : (entryAt s r).occupant with
    | none =>
      obtain ⟨refs_, new_, stale_⟩ := unretired (by simp [retiredFor, old])
      rw [refs_, new_, stale_, visit_free (by rw [same]; exact old)]
      exact h.stepped
    | some o =>
      have old' : (entryAt t r).occupant = some o := by rw [same]; exact old
      have for_ (c : RetireCause) : retiredFor c s r = (visitCause o.life == some c) := by
        simp [retiredFor, old]
      cases cause : visitCause o.life with
      | none =>
        obtain ⟨refs_, new_, stale_⟩ := unretired (by simp [for_, cause])
        rw [refs_, new_, stale_]
        rcases visit_keeps old' cause with ⟨-, unmoved⟩ | written
        · rw [unmoved]; exact h.stepped
        · rw [written]; exact h.stepped.setOccupant _ fresh
      | some c =>
        have causes := visitCause_cases cause
        have gone : retiredAt s r = true := by
          rcases causes with rfl | rfl <;> simp [retiredAt, for_, cause]
        have more := h.stepped.retire c fresh same old
        rw [sweptStats_succ causes] at more
        rw [visit_retires old' cause, stats, stats, for_, for_, cause, List.filter_append]
        simpa [gone] using more
  · rw [entries]
    by_cases e : k = r
    · rw [if_pos e, e]
    · rw [if_neg e]
      exact h.visited k (by simpa [e] using hk)
  · rw [List.mem_append, List.mem_singleton, not_or] at hk
    rw [entries, if_neg hk.2]
    exact h.others k hk.1

/-- A sweep step visits every entry of its step. -/
theorem swept_foldl (s : State) {refs : List Nat} (nodup : refs.Nodup) :
    Swept refs s (refs.foldl (fun t ref => visit ref t) s) := by
  induction refs using List.reverseRecOn with
  | nil => exact ⟨SteppedOver.nil s, fun _ h => (nomatch h), fun _ _ => rfl⟩
  | append_singleton refs r ih =>
    rw [List.nodup_append] at nodup
    rw [List.foldl_append]
    exact (ih nodup.1).snoc fun hr => nodup.2.2 r hr r List.mem_cons_self rfl

/-- Where the cursor goes at the end of a step (R74). -/
theorem advanceSweep_cursor (s : State) :
    (s.sweepCursor < 2055 → (advanceSweep s).sweepCursor = s.sweepCursor + 1 ∧
      (advanceSweep s).sweepRunning = s.sweepRunning) ∧
    (2055 ≤ s.sweepCursor → (advanceSweep s).sweepCursor = 0 ∧
      (advanceSweep s).sweepRunning = false) := by
  unfold advanceSweep
  refine ⟨fun more => ?_, fun last => ?_⟩
  · rw [if_pos (show s.sweepCursor + 1 < Config.walkSteps from Nat.succ_lt_succ more)]
    exact ⟨rfl, rfl⟩
  · rw [if_neg (show ¬s.sweepCursor + 1 < Config.walkSteps from fun lt =>
      absurd (Nat.lt_of_succ_lt_succ lt) (Nat.not_lt.2 last))]
    exact ⟨rfl, rfl⟩

/-- The end of a step moves the sweep alone (R74). -/
theorem advanceSweep_frame (s : State) :
    advanceSweep s = { s with
      sweepCursor := (advanceSweep s).sweepCursor, sweepRunning := (advanceSweep s).sweepRunning } := by
  unfold advanceSweep
  split <;> rfl

/-- Settles O33: the step's fold visits each entry of the step, and the cursor moves on. -/
theorem sweepStepVisits : Obligations.SweepStepVisits := by
  intro s awake engine unconfirmed stale retired
  have causes (r : Nat) :
      unconfirmed r = retiredFor .sweepNew s r ∧ stale r = retiredFor .sweepStale s r := by
    simp only [unconfirmed, stale, retiredFor]
    cases (entryAt s r).occupant with
    | none => exact ⟨rfl, rfl⟩
    | some o =>
      obtain ⟨key, place, sp, dp, life, meter, set⟩ := o
      cases life with
      | new a g =>
        simp only [Option.any_some, visitCause_new]
        cases a.hit <;> exact ⟨rfl, rfl⟩
      | _ => exact ⟨rfl, rfl⟩
  have new_ : unconfirmed = retiredFor .sweepNew s := funext fun r => (causes r).1
  have stale_ : stale = retiredFor .sweepStale s := funext fun r => (causes r).2
  have retired_ : retired = (stepRefs s.sweepCursor).filter (retiredAt s) := by
    simp only [retired, new_, stale_]
    rfl
  obtain ⟨⟨gone, frame⟩, visited, others⟩ := swept_foldl s (nodup_stepRefs s.sweepCursor)
  obtain ⟨-, cursor, running⟩ := visits_keep_sweep (stepRefs s.sweepCursor) s
  obtain ⟨more, last⟩ := advanceSweep_cursor (visitStep s)
  have advanced := advanceSweep_frame (visitStep s)
  have finish : exec (.sweepStep .finish) s =
      .next { advanceSweep (visitStep s) with engine := .idle } := by
    refine (act_awake finishSweep awake).trans ?_
    unfold finishSweep
    rw [if_pos engine]
  refine ⟨_, finish, ?_⟩
  rw [advanced, retired_, new_, stale_]
  refine ⟨{ gone with }, fun lt => ?_, fun le => ?_, others, fun k hk => ?_, ?_⟩
  · obtain ⟨c, r⟩ := more (lt_of_eq_of_lt cursor lt)
    exact ⟨c.trans (congrArg (· + 1) cursor), r.trans running⟩
  · exact last (le_of_le_of_eq le cursor.symm)
  · have entry := visited k hk
    refine ⟨(congrArg Entry.generation entry :), (congrArg Entry.occupant entry :).trans ?_⟩
    simp only [visitedEntry]
    cases (entryAt s k).occupant with
    | none => rfl
    | some o =>
      simp only [Option.bind_some]
      cases hl : o.life with
      | new a origin => cases hit : a.hit <;> simp [visitCause, visitedLife, hit]
      | live a => cases hit : a.hit <;> simp [visitCause, visitedLife, visitedAging, hit]
      | stale a => rfl
      | pinned => simp [visitCause, visitedLife, ← hl]
  · exact congrArg (fun v : State => { v with
      engine := .idle, sweepCursor := s.sweepCursor, sweepRunning := s.sweepRunning }) frame

end Sys2Proof.Machine

namespace Sys2Proof.Machine

-- One proof at a time: the whole text then compiles in few threads.
set_option Elab.async false

/-! ### The source part of a settle operation -/

/-- A charge of a current lifetime, field by field (R108). -/
theorem chargeEntry_eq {s : State} {p : Pair} {o : Occupant} (c : Charge)
    (old : entryAt s p.ref = ⟨p.generation, some o⟩) :
    chargeEntry p.ref c s = chargedTo o.counterSet p (charged c) s := by
  have owner : pairAt s p.ref = p := by rw [pairAt, old]
  unfold chargeEntry
  rw [old, owner, Option.bind_some]
  cases o.counterSet <;> rfl

/-- A charge writes counter sets alone. -/
theorem chargedTo_frame (set : Option Nat) (owner : Pair) (f : Counts → Counts) (s : State) :
    { chargedTo set owner f s with counterSets := s.counterSets } = s := by
  unfold chargedTo
  split
  · rfl
  · split <;> rfl

/-- A debit writes the meter of its entry alone (R93). -/
theorem debitEntry_cases {s : State} {ref : Nat} {o : Occupant} (bytes : Nat)
    (old : (entryAt s ref).occupant = some o) :
    debitEntry ref bytes s = s ∨
      ∃ m, debitEntry ref bytes s = setOccupant ref { o with meter := some m } s := by
  unfold debitEntry
  split
  · exact .inl rfl
  · next o' m p active =>
    obtain ⟨old', -, -⟩ := activeMeter_some active
    obtain rfl := Option.some.inj (old'.symm.trans old)
    exact .inr ⟨_, rfl⟩

/-- What a debit leaves of its entry: everything but the meter (R93). -/
theorem entryAt_debitEntry {s : State} {ref : Nat} {o : Occupant} (bytes : Nat)
    (old : (entryAt s ref).occupant = some o) :
    (∃ m, entryAt (debitEntry ref bytes s) ref =
      ⟨(entryAt s ref).generation, some { o with meter := m }⟩) ∧
    ∀ k, k ≠ ref → entryAt (debitEntry ref bytes s) k = entryAt s k := by
  rcases debitEntry_cases bytes old with same | ⟨m, written⟩
  · rw [same]
    exact ⟨⟨o.meter, by rw [← old]⟩, fun _ _ => rfl⟩
  · rw [written]
    refine ⟨⟨some m, ?_⟩, fun k hk => ?_⟩
    · rw [entryAt_setOccupant, if_pos rfl]
    · rw [entryAt_setOccupant, if_neg hk]

/-- A state whose entry at `ref` differs in its meter alone. -/
structure MeterApart (ref : Nat) (s u : State) : Prop where
  frame : { u with entries := s.entries } = s
  entry : ∃ g o m, entryAt s ref = ⟨g, some o⟩ ∧ entryAt u ref = ⟨g, some { o with meter := m }⟩

/-- Which set an entry names does not depend on its meter. -/
theorem MeterApart.namesSet {ref : Nat} {s u : State} (h : MeterApart ref s u) :
    namesSet u ref = namesSet s ref := by
  obtain ⟨g, o, m, hs, hu⟩ := h.entry
  simp only [Machine.namesSet, hs, hu]

/-- A retirement's bit does not depend on the meter of the entry retired. -/
theorem MeterApart.orphansBit {ref : Nat} {s u : State} (h : MeterApart ref s u) :
    orphansBit [ref] u = orphansBit [ref] s := by
  unfold Machine.orphansBit
  have reclaim : u.autoReclaim = s.autoReclaim := (congrArg State.autoReclaim h.frame :)
  have mark : u.orphanMark = s.orphanMark := (congrArg State.orphanMark h.frame :)
  have orphaned : u.orphaned = s.orphaned := (congrArg State.orphaned h.frame :)
  rw [List.countP_singleton, List.countP_singleton, h.namesSet, reclaim, mark, orphaned]

/-- A retirement is read the same from a state that differs in the meter of the entry retired. -/
theorem MeterApart.retired {ref : Nat} {s u t : State} (h : MeterApart ref s u)
    (r : RetiredAll [ref] u t) : RetiredAll [ref] s t := by
  have reclaim : u.autoReclaim = s.autoReclaim := (congrArg State.autoReclaim h.frame :)
  have orphaned : u.orphaned = s.orphaned := (congrArg State.orphaned h.frame :)
  have occupancy : u.occupancy = s.occupancy := (congrArg State.occupancy h.frame :)
  have sets (n : Nat) : counterSetAt u n = counterSetAt s n :=
    (congrArg (fun v : State => counterSetAt v n) h.frame :)
  have bit := h.namesSet
  obtain ⟨g, o, m, hs, hu⟩ := h.entry
  have forth {o' : Occupant} {n : Nat} : NamesSet s ref o' n →
      o' = o ∧ NamesSet u ref { o with meter := m } n := by
    rintro ⟨ho, hn⟩
    rw [hs] at ho
    obtain rfl := Option.some.inj ho
    exact ⟨rfl, by rw [hu], hn⟩
  have back {o' : Occupant} {n : Nat} : NamesSet u ref o' n → NamesSet s ref o n := by
    rintro ⟨ho, hn⟩
    rw [hu] at ho
    obtain rfl := Option.some.inj ho
    exact ⟨by rw [hs], hn⟩
  constructor
  · intro k hk
    rw [r.entries k hk, List.mem_singleton.1 hk, hs, hu]
  · rw [r.occupancy, occupancy]
  · intro n hn
    rw [r.others n, sets]
    intro k hk o' names
    obtain rfl := List.mem_singleton.1 hk
    exact hn k hk o (back names)
  · intro hr k hk o' n names
    obtain rfl := List.mem_singleton.1 hk
    exact r.reclaimed (reclaim.trans hr) k hk _ n (forth names).2
  · intro hr k hk o' n names _
    obtain rfl := List.mem_singleton.1 hk
    obtain ⟨rfl, names'⟩ := forth names
    rw [← sets]
    exact (r.kept (reclaim.trans hr) k hk _ n names'
      fun k' hk' ne => absurd (List.mem_singleton.1 hk') ne :)
  · rw [r.orphaned, orphaned, reclaim, List.countP_singleton, List.countP_singleton, bit]

/-! ### Rejection -/

/-- The source part of a BAD settle from the origin tag of a NEW entry retires it (R68, R135). -/
theorem settleSource_rejects {i : SettleInput} {p : Pair} {o : Occupant} {a : Aging} {s : State}
    (h : SettlingSource i p o s) (bad : i.good = false) (created : i.record.created = true)
    (origin : o.life = .new a ⟨i.lane, i.tag⟩) :
    let mid := chargedTo o.counterSet p (charged .sourceBad) s
    ∃ u, MeterApart p.ref mid u ∧ (∀ k, k ≠ p.ref → entryAt u k = entryAt s k) ∧
      (∃ o', (entryAt u p.ref).occupant = some o') ∧
      settleSource i p.ref s = retire p.ref .settleBad u := by
  intro mid
  have entries (k : Nat) : entryAt mid k = entryAt s k :=
    (congrArg (fun v : State => entryAt v k)
      (chargedTo_frame o.counterSet p (charged .sourceBad) s) :)
  have old : entryAt mid p.ref = ⟨p.generation, some o⟩ := (entries _).trans h.occupant
  obtain ⟨⟨m, debited⟩, others⟩ := entryAt_debitEntry i.byteCount.toNat
    (congrArg Entry.occupant old : (entryAt mid p.ref).occupant = some o)
  rw [old] at debited
  refine ⟨debitEntry p.ref i.byteCount.toNat mid,
    ⟨debitEntry_frame _ _ _, p.generation, o, m, old, debited⟩,
    fun k hk => (others k hk).trans (entries k), ⟨_, by rw [debited]⟩, ?_⟩
  have charge : chargeEntry p.ref (sourceCharge i) s = mid := by
    rw [show sourceCharge i = .sourceBad by simp [sourceCharge, bad], chargeEntry_eq _ h.occupant]
  have own : isOriginTag i ⟨i.lane, i.tag⟩ = true := by simp [isOriginTag, created]
  unfold settleSource
  rw [charge]
  unfold confirmOrReject
  rw [debited]
  dsimp only
  rw [origin]
  dsimp only
  rw [bad, if_neg (by decide), if_pos own]

/-- A BAD settle makes no destination charge (R136). -/
theorem settlePart_destination_bad {i : SettleInput} (bad : i.good = false) (p : Option Pair)
    (s : State) : (settlePart p (settleDestination i) s).1 = s := by
  unfold settlePart settleDestination
  rw [bad]
  split
  · rfl
  · split <;> rfl

/-- A BAD settle whose source is current ends with its source part, but for a lost charge of the destination
(R135, R136). -/
theorem settleWork_bad {i : SettleInput} {p : Pair} {o : Occupant} {s : State}
    (h : SettlingSource i p o s) (bad : i.good = false) :
    ∃ lanes, settleWork i s = { settleSource i p.ref s with lanes := lanes } := by
  have now : current s p = true := by
    simp only [current, h.occupant]
    exact beq_self_eq_true _
  have source : settlePart i.record.source (settleSource i) s = (settleSource i p.ref s, false) := by
    unfold settlePart
    rw [h.recorded]
    exact if_pos now
  have destination := settlePart_destination_bad bad i.record.destination (settleSource i p.ref s)
  unfold settleWork
  rw [source]
  dsimp only
  rw [destination]
  split
  · exact ⟨_, rfl⟩
  · exact ⟨_, rfl⟩

/-- Settles O28: the source part charges, debits and retires, and the destination part charges nothing. -/
theorem originTagRejects : Obligations.OriginTagRejects := by
  intro i p o a s h bad created origin mid
  obtain ⟨u, apart, others, ⟨o', old⟩, source⟩ := settleSource_rejects h bad created origin
  obtain ⟨lanes, work⟩ := settleWork_bad h bad
  have charge := chargedTo_frame o.counterSet p (charged .sourceBad) s
  have midBit : orphansBit [p.ref] mid = orphansBit [p.ref] s :=
    (congrArg (fun v : State => orphansBit [p.ref] v) charge :)
  rw [source] at work
  refine ⟨performSettle s, act_awake _ h.awake, ?_⟩
  rw [performSettle_eq h.engine, work]
  refine ⟨{ apart.retired (retiredAll_retire .settleBad old) with }, fun k hk => ?_, ?_⟩
  · exact (entryAt_retire .settleBad old k).trans ((if_neg hk).trans (others k hk))
  · have frame := retire_frame .settleBad old
    rw [apart.orphansBit.trans midBit] at frame
    have base : { u with entries := s.entries, counterSets := s.counterSets } = s :=
      (congrArg (fun v : State => { v with entries := s.entries, counterSets := s.counterSets })
        apart.frame).trans (congrArg (fun v : State => { v with entries := s.entries }) charge)
    exact (congrArg (fun v : State => { v with
        entries := s.entries, counterSets := s.counterSets, occupancy := s.occupancy
        orphaned := s.orphaned, lanes := s.lanes, engine := .settled i.lane i.tag s.occupancy })
        frame).trans
      (congrArg (fun v : State => { v with
        tableStats := countRetirement .settleBad v.tableStats
        irqPending := v.irqPending ||| orphansBit [p.ref] s, occupancy := s.occupancy
        orphaned := s.orphaned, lanes := s.lanes, engine := .settled i.lane i.tag s.occupancy }) base)

end Sys2Proof.Machine

namespace Sys2Proof.Machine

-- One proof at a time: the whole text then compiles in few threads.
set_option Elab.async false

/-! ### Search, allocation and the pool -/

/-- The places of a key stand in the order in which an allocation tries them, lowest first (R9). -/
theorem pairwise_placesOf (s : State) (k : Key) : (placesOf s k).Pairwise (· < ·) := by
  have bound := bucketOf_lt s.hashSelect k
  unfold placesOf bucketRefs spillRefs
  refine List.pairwise_append.2 ⟨by simp, List.pairwise_lt_range', fun a ha b hb => ?_⟩
  simp only [Config.mainRefs, Config.spillSlots, List.mem_cons, List.not_mem_nil, or_false,
    List.mem_range'_1] at ha hb
  omega

/-- An allocation's place is the lowest FREE one among the key's places (R9). -/
theorem freePlace_iff_least {s : State} {k : Key} {ref : Nat} :
    freePlace s k = some ref ↔
      ref ∈ placesOf s k ∧ (entryAt s ref).occupant = none ∧
        ∀ r ∈ placesOf s k, r < ref → (entryAt s r).occupant ≠ none := by
  unfold freePlace
  rw [find?_eq_some_iff_least (pairwise_placesOf s k)]
  simp only [Option.isNone_iff_eq_none, Option.isNone_eq_false_iff, Option.isSome_iff_ne_none]

/-- The lowest FREE place is a way of the bucket, or with none a spill slot (R9). -/
theorem freePlace_iff {s : State} {k : Key} {ref : Nat} :
    freePlace s k = some ref ↔
      (entryAt s ref).occupant = none ∧
        ((ref / 4 = bucketOf s.hashSelect k ∧
            ∀ r, r / 4 = bucketOf s.hashSelect k → r < ref → (entryAt s r).occupant ≠ none) ∨
          ((8192 ≤ ref ∧ ref < 8256) ∧
            (∀ r, r / 4 = bucketOf s.hashSelect k → (entryAt s r).occupant ≠ none) ∧
            ∀ r, 8192 ≤ r → r < ref → (entryAt s r).occupant ≠ none)) := by
  have bound := bucketOf_lt s.hashSelect k
  rw [freePlace_iff_least]
  simp only [mem_placesOf]
  constructor
  · rintro ⟨way | slot, free, least⟩
    · exact ⟨free, .inl ⟨way, fun r hr => least r (.inl hr)⟩⟩
    · exact ⟨free, .inr ⟨slot, fun r hr => least r (.inl hr) (by omega),
        fun r low lt => least r (.inr ⟨low, by omega⟩) lt⟩⟩
  · rintro ⟨free, ⟨way, least⟩ | ⟨slot, full, least⟩⟩
    · refine ⟨.inl way, free, fun r hr lt => ?_⟩
      rcases hr with hr | hr
      · exact least r hr lt
      · omega
    · refine ⟨.inr slot, free, fun r hr lt => ?_⟩
      rcases hr with hr | hr
      · exact full r hr
      · exact least r hr.1 lt

/-- The pool gives the lowest FREE set (R103). -/
theorem lowestFreeSet_iff {s : State} {n : Nat} :
    lowestFreeSet s = some n ↔
      n < 1024 ∧ (counterSetAt s n).state = .free ∧ ∀ k, k < n → (counterSetAt s k).state ≠ .free := by
  unfold lowestFreeSet Config.counterSets
  rw [List.find?_range_eq_some]
  simp only [List.mem_range, beq_iff_eq, Bool.not_eq_true', beq_eq_false_iff_ne]
  tauto

/-! ### INSERT -/

/-- An INSERT that no test refuses allocates its entry with its set (R151 to R153). -/
theorem insertWork_places {b : Block} {o : InsertOperands} {pl : Place} {ref : Nat} {s : State}
    (operands : insertOperands b = some o) (placed : insertPlace o = some pl)
    (absent : searchKey s o.key = none) (place : freePlace s o.key = some ref) :
    insertWork b s =
      (raiseSpillHigh s.occupancy (allocateCounted ref (insertedOccupant o pl s) (insertSet o s) s),
        if o.counter ≠ none ∧ insertSet o s = none then .okNoCounter else .ok,
        [word ref, ((entryAt s ref).generation + 1).setWidth 16, attachedMark (insertSet o s)]) := by
  unfold insertWork
  rw [operands]
  dsimp only
  rw [placed]
  dsimp only
  rw [absent]
  dsimp only
  rw [place]
  dsimp only
  unfold insertAtRef
  rw [insertCounter_allocate]
  dsimp only
  rw [pairAt, entryAt_allocateCounted, if_pos rfl]
  rfl

/-- INSERT's allocation, read from the granted state, up to SPILL_HIGH (R15, R152). -/
theorem insert_frame (ref : Nat) (o : Occupant) (set : Option Nat) (s : State) :
    { raiseSpillHigh s.occupancy (allocateCounted ref o set s) with
      entries := s.entries, counterSets := s.counterSets } =
      { s with
        occupancy := occupied ref s.occupancy
        irqPending := if s.spillMark ≠ 0 ∧ s.occupancy.spill + 1 = s.spillMark ∧
          (occupied ref s.occupancy).spill = s.spillMark then s.irqPending ||| 0x0400#16
          else s.irqPending } := by
  have frame := congrArg (raiseSpillHigh s.occupancy) (allocateCounted_frame ref o set s)
  rw [raiseSpillHigh_eq, raiseSpillHigh_eq] at frame
  rw [raiseSpillHigh_eq]
  exact frame

/-- Settles O35: the finds in rising lists, and INSERT's allocation field by field. -/
theorem insertPlaces : Obligations.InsertPlaces := by
  refine ⟨⟨fun s k ref found => ?_, fun s k absent ref o place => ?_, fun s k ref => freePlace_iff,
    fun s n => lowestFreeSet_iff⟩, ?_⟩
  · obtain ⟨mem, holder⟩ := searchKey_some found
    exact ⟨mem_placesOf.1 mem, holder⟩
  · exact searchKey_none absent (mem_placesOf.2 place)
  · intro n b o pl ref s h operands placed absent place p set st e mark
    have given : insertSet o { s with engine := .idle } = set := rfl
    have marked : attachedMark set = mark := by
      cases hset : set <;> simp only [mark, hset] <;> rfl
    have work := insertWork_places (s := { s with engine := .idle }) operands placed absent place
    rw [given, marked, raiseSpillHigh_eq] at work
    have frame := insert_frame ref (insertedOccupant o pl s) set { s with engine := .idle }
    rw [raiseSpillHigh_eq] at frame
    refine ⟨_, (tableCommand_finish insertWork h).trans (by rw [work]), ?_, fun k hk => ?_,
      fun k => ?_, ?_⟩
    · exact (entryAt_allocateCounted ref ref (insertedOccupant o pl s) set
        { s with engine := .idle }).trans (if_pos rfl)
    · exact (entryAt_allocateCounted ref k (insertedOccupant o pl s) set
        { s with engine := .idle }).trans (if_neg hk)
    · exact counterSetAt_allocateCounted ref k (insertedOccupant o pl s) set { s with engine := .idle }
    · exact congrArg (Sys2Proof.Machine.finished n b st
        [word ref, ((entryAt s ref).generation + 1).setWidth 16, mark]) frame

end Sys2Proof.Machine

namespace Sys2Proof.Machine

-- One proof at a time: the whole text then compiles in few threads.
set_option Elab.async false

/-! ### Words that pack two bits for each slot or lane -/

/-- A number of two-bit digits, the lowest first, as the slot and lane states readouts add it up. -/
def packed (n : Nat) (digit : Fin n → Nat) : Nat :=
  (List.finRange n).foldl (fun a i => a + digit i * 4 ^ i.val) 0

theorem packed_succ (n : Nat) (digit : Fin (n + 1) → Nat) :
    packed (n + 1) digit = packed n (fun i => digit i.castSucc) + digit (Fin.last n) * 4 ^ n := by
  unfold packed
  rw [List.finRange_succ_last, List.foldl_append, List.foldl_map]
  rfl

/-- Digits below 4 do not run over. -/
theorem packed_lt {n : Nat} {digit : Fin n → Nat} (small : ∀ i, digit i < 4) :
    packed n digit < 4 ^ n := by
  induction n with
  | zero => exact Nat.one_pos
  | succ n ih =>
    have low := ih fun i => small i.castSucc
    have high := Nat.mul_le_mul_right (4 ^ n) (Nat.le_of_lt_succ (small (Fin.last n)))
    rw [packed_succ, Nat.pow_succ]
    omega

/-- Each digit below 4 is read back from its place. -/
theorem packed_digit {n : Nat} {digit : Fin n → Nat} (small : ∀ i, digit i < 4) (k : Fin n) :
    packed n digit / 4 ^ k.val % 4 = digit k := by
  induction n with
  | zero => exact k.elim0
  | succ n ih =>
    have low := packed_lt fun i => small i.castSucc
    rw [packed_succ]
    cases k using Fin.lastCases with
    | last =>
      rw [Fin.val_last, Nat.add_mul_div_right _ _ (Nat.pow_pos (by decide)), Nat.div_eq_of_lt low,
        Nat.zero_add, Nat.mod_eq_of_lt (small _)]
    | cast k =>
      obtain ⟨d, hd⟩ := Nat.exists_eq_add_of_lt k.isLt
      have split : digit (Fin.last n) * 4 ^ n = digit (Fin.last n) * 4 ^ d * 4 * 4 ^ k.val :=
        calc digit (Fin.last n) * 4 ^ n
          _ = digit (Fin.last n) * 4 ^ (k.val + d + 1) := congrArg (digit (Fin.last n) * 4 ^ ·) hd
          _ = digit (Fin.last n) * 4 ^ d * 4 * 4 ^ k.val := by ring
      rw [Fin.val_castSucc, split, Nat.add_mul_div_right _ _ (Nat.pow_pos (by decide)),
        Nat.add_mul_mod_self_right]
      exact ih (fun i => small i.castSucc) k

/-- The two bits of a packed word at a place are the digit there. -/
theorem word_packed_bits {n : Nat} {digit : Fin n → Nat} (small : ∀ i, digit i < 4) (fits : n ≤ 8)
    (k : Fin n) : (word (packed n digit) >>> (2 * k.val)) &&& 3 = BitVec.ofNat 16 (digit k) := by
  have bound : packed n digit < 2 ^ 16 :=
    (packed_lt small).trans_le (Nat.pow_le_pow_right (by decide) fits)
  have toNat : (word (packed n digit)).toNat = packed n digit := by
    rw [word, BitVec.toNat_ofNat, Nat.mod_eq_of_lt bound]
  apply BitVec.eq_of_toNat_eq
  have small' := small k
  rw [BitVec.toNat_and, BitVec.toNat_ushiftRight, toNat, Nat.shiftRight_eq_div_pow, Nat.pow_mul,
    BitVec.toNat_ofNat, Nat.mod_eq_of_lt (by omega)]
  exact (Nat.and_two_pow_sub_one_eq_mod _ 2).trans (packed_digit small k)

theorem slotCode_lt (x : Slot) : slotCode x < 4 := by
  cases x <;> simp [slotCode]

theorem laneStateCode_lt (x : LaneState) : laneStateCode x < 4 := by cases x <;> decide

/-- The slot states readout holds each slot's state in its two bits. -/
theorem slotStatesWord_bits (s : State) (n : SlotNo) :
    (slotStatesWord s >>> (2 * n.val)) &&& 3 = BitVec.ofNat 16 (slotCode (slotAt s n)) :=
  word_packed_bits (digit := fun n => slotCode (slotAt s n)) (fun _ => slotCode_lt _) (by decide) n

/-- The lane states readout holds each lane's state in its two bits. -/
theorem laneStatesWord_bits (s : State) (l : LaneNo) :
    (laneStatesWord s >>> (2 * l.val)) &&& 3 = BitVec.ofNat 16 (laneStateCode (laneAt s l).state) :=
  word_packed_bits (digit := fun l => laneStateCode (laneAt s l).state)
    (fun _ => laneStateCode_lt _) (by decide) l

/-- The slot states readout holds nothing above the four slots. -/
theorem slotStatesWord_high (s : State) : slotStatesWord s >>> 8 = 0 := by
  have bound : packed 4 (fun n => slotCode (slotAt s n)) < 2 ^ 8 := packed_lt fun _ => slotCode_lt _
  apply BitVec.eq_of_toNat_eq
  refine (BitVec.toNat_ushiftRight _ _).trans ?_
  have toNat : (slotStatesWord s).toNat = packed 4 fun n => slotCode (slotAt s n) :=
    (BitVec.toNat_ofNat _ _).trans (Nat.mod_eq_of_lt (bound.trans (by decide)))
  rw [toNat, Nat.shiftRight_eq_div_pow, Nat.div_eq_of_lt bound]
  rfl

/-! ### Reads and writes by address -/

/-- An address below the readouts, between them, or above them, that has no case of its own in a read. -/
def isPlainAddress (a : Nat) : Prop :=
  a < 0x13 ∨ (0x13 < a ∧ a < 0x60) ∨ (0x6A < a ∧ a ≠ 0x70)

/-- A read at any other address than a readout's: the submission area, a result area, or 0 (Table 11-4). -/
theorem windowRead_plain {s : State} (h : awake s) {a : BitVec 7} (plain : isPlainAddress a.toNat) :
    windowRead s a =
      if a.toNat < 16 then wordAt s.submission a.toNat
      else (resultAreaOf a.toNat).elim 0 fun area => resultAreaWord s area.1 area.2 := by
  unfold isPlainAddress at plain
  unfold windowRead
  rw [if_neg (by rw [h]; decide)]
  split
  any_goals omega
  cases resultAreaOf a.toNat <;> rfl

/-- A readout's word, by its case of the read. -/
theorem windowRead_readout {s : State} (h : awake s) (a : BitVec 7) (w : Word16)
    (readout : windowRead { s with resetLow := false } a = w) : windowRead s a = w := by
  have same : { s with resetLow := false } = s := by rw [← (show s.resetLow = false from h)]
  rwa [same] at readout

/-- A submission word reads back (R173). -/
theorem windowRead_submission {s : State} (h : awake s) {a : BitVec 7} (low : a.toNat < 16) :
    windowRead s a = wordAt s.submission a.toNat := by
  rw [windowRead_plain h (.inl (by omega)), if_pos low]

/-- A result area's word (R175). -/
theorem windowRead_resultArea {s : State} (h : awake s) (n : SlotNo) (i : Fin 16) :
    windowRead s (BitVec.ofNat 7 (32 + 16 * n.val + i.val)) = resultAreaWord s n i.val := by
  have address : (BitVec.ofNat 7 (32 + 16 * n.val + i.val)).toNat = 32 + 16 * n.val + i.val := by
    rw [BitVec.toNat_ofNat]
    omega
  have area : resultAreaOf (32 + 16 * n.val + i.val) = some (n, i.val) := by
    unfold resultAreaOf
    rw [dif_pos (by omega)]
    simp only [Option.some.injEq, Prod.mk.injEq, Fin.ext_iff]
    omega
  rw [windowRead_plain h (.inr (.inl (by omega))), address, if_neg (by omega), area]
  rfl

/-- Action words and unassigned addresses read as 0 (Table 11-4). -/
theorem windowRead_unassigned {s : State} (h : awake s) {a : BitVec 7}
    (unassigned : a ∈ [0x10, 0x11, 0x12, 0x7F] ∨ (0x14 ≤ a ∧ a < 0x20) ∨ (0x6B ≤ a ∧ a < 0x70) ∨
      (0x70 < a ∧ a < 0x7F)) : windowRead s a = 0 := by
  simp only [List.mem_cons, List.not_mem_nil, or_false] at unassigned
  have plain : isPlainAddress a.toNat := by
    unfold isPlainAddress
    bv_omega
  have high : ¬ a.toNat < 16 := by bv_omega
  have outside : ¬ (0x20 ≤ a.toNat ∧ a.toNat < 0x60) := by bv_omega
  rw [windowRead_plain h plain, if_neg high, resultAreaOf, dif_neg outside]
  rfl

/-- The page of a result area's word is submission word 15 modulo 4 (R186). -/
theorem and_three_toNat (w : Word16) : (w &&& 3).toNat = w.toNat % 4 :=
  (BitVec.toNat_and _ _).trans (Nat.and_two_pow_sub_one_eq_mod _ 2)

/-- A write to a submission word stores it (R173). -/
theorem windowWrite_submission {a : BitVec 7} (v : Word16) (s : State) (low : a.toNat < 16) :
    windowWrite a v s = { s with submission := put 0 s.submission a.toNat v } := by
  unfold windowWrite
  split
  any_goals omega
  exact if_pos low

/-- A write to a readout or an unassigned word is ignored (R172). -/
theorem windowWrite_ignored {a : BitVec 7} (v : Word16) (s : State) (high : 16 ≤ a.toNat)
    (other : (Instr.registerWrite a v).wellFormed = true) : windowWrite a v s = s := by
  simp only [Instr.wellFormed, ownRowWords, List.contains_eq_mem, List.mem_cons, List.not_mem_nil,
    or_false, Bool.not_eq_true', decide_eq_false_iff_not, not_or] at other
  obtain ⟨h10, h11, h12, h60, h61, h70, h7F⟩ := other
  unfold windowWrite
  split
  any_goals bv_omega
  exact if_neg (by omega)

/-- The sweep readout (R75). -/
theorem sweepWord_eq (s : State) :
    sweepWord s = (if s.sweepRunning then 0x8000 else 0) ||| BitVec.ofNat 16 s.sweepCursor := by
  unfold sweepWord flagWord
  cases s.sweepRunning <;> rfl

/-- The first word of a DONE slot's result: its code, then its status (Table 11-6). -/
theorem resultHead_eq (code status : Byte) :
    code.setWidth 16 <<< 8 ||| status.setWidth 16 = code ++ status := by
  rw [BitVec.append_def, BitVec.shiftLeftZeroExtend_eq, BitVec.setWidth'_eq]

/-- Settles O51: each word by its case of the read and of the write. -/
theorem windowWords : Obligations.WindowWords := by
  refine ⟨fun s h => ⟨fun v hv => ?_, fun v hv => ?_, ?_, fun a v low => ⟨?_, ?_⟩,
    fun a v high other => ?_⟩, fun s h => ?_, fun s h => ⟨fun n i => ⟨fun idle => ?_, fun b r done => ?_⟩,
    fun a unassigned => windowRead_unassigned h unassigned⟩⟩
  · exact (act_awake _ h).trans (congrArg _ (if_neg hv))
  · exact (act_awake _ h).trans (congrArg _ (if_pos hv))
  · refine (act_awake _ h).trans ?_
    have read : windowRead s 0x69 = s.ms.setWidth 16 := windowRead_readout h _ _ rfl
    rw [readCounterLow, read]
  · exact (act_awake _ h).trans (congrArg _ (windowWrite_submission v s low))
  · exact windowRead_submission h low
  · exact (act_awake _ h).trans (congrArg _ (windowWrite_ignored v s high other))
  · have readout (a : BitVec 7) (w : Word16) := windowRead_readout h a w
    refine ⟨readout 0x13 _ rfl, readout 0x60 _ rfl, readout 0x61 _ rfl, readout 0x62 _ rfl,
      readout 0x63 _ rfl, readout 0x64 _ rfl, readout 0x65 _ (sweepWord_eq _), fun n => ?_, ?_,
      fun l => ?_, readout 0x68 _ rfl, readout 0x69 _ rfl, readout 0x6A _ rfl, readout 0x70 _ rfl⟩
    · rw [readout 0x66 (slotStatesWord s) rfl, slotStatesWord_bits]
      cases slotAt s n <;> rfl
    · rw [readout 0x66 (slotStatesWord s) rfl, slotStatesWord_high]
    · rw [readout 0x67 (laneStatesWord s) rfl, laneStatesWord_bits]
      cases (laneAt s l).state <;> rfl
  · rw [windowRead_resultArea h, resultAreaWord]
    split
    · next b r done => exact absurd done (idle b r)
    · rfl
  · rw [windowRead_resultArea h, resultAreaWord, done]
    refine ⟨fun first => ?_, fun later => ?_⟩
    · exact (if_pos first).trans (resultHead_eq _ _)
    · exact (if_neg later).trans (by rw [and_three_toNat])

end Sys2Proof.Machine

namespace Sys2Proof.Machine

-- One proof at a time: the whole text then compiles in few threads.
set_option Elab.async false

/-! ### The readings of single words -/

/-- A word read by two codes (R185). -/
theorem eitherOf_eq_some {α : Type} {zero one x : α} {w : Word16} :
    eitherOf zero one w = some x ↔ (w = 0 ∧ x = zero) ∨ (w = 1 ∧ x = one) := by
  unfold eitherOf
  split
  · next h => subst h; simp [eq_comm (a := x)]
  · next zero => split <;> simp_all [eq_comm (a := x)]

/-- A word read by three codes (R185). -/
theorem threeOf_eq_some {α : Type} {zero one two x : α} {w : Word16} :
    threeOf zero one two w = some x ↔
      (w = 0 ∧ x = zero) ∨ (w = 1 ∧ x = one) ∨ (w = 2 ∧ x = two) := by
  unfold threeOf
  split
  · next h => subst h; simp [eq_comm (a := x)]
  · next h => rw [eitherOf_eq_some, iff_false_intro (fun e : w = 2 ∧ x = two => h e.1), or_false]

/-- A word that holds a code of its own or a value, the code being no value (R185). -/
theorem codeOr_eq_some {α β : Type} {code w : Word16} {read : Word16 → Option α} (a : β) (f : α → β)
    {x : β} (apart : read code = none) :
    (if w = code then some a else (read w).map f) = some x ↔
      (w = code ∧ x = a) ∨ ∃ v, x = f v ∧ read w = some v := by
  split
  · next h => subst h; simp [apart, eq_comm]
  · next h => simp [h, eq_comm, and_comm]

/-- A word read as a number below `n`. -/
theorem belowOf_eq_some {n : Nat} {w : Word16} {k : Fin n} :
    belowOf n w = some k ↔ w.toNat = k.val := by
  unfold belowOf
  split
  · exact Option.some_inj.trans Fin.ext_iff
  · next h => exact iff_of_false nofun fun e => h (e ▸ k.isLt)

/-- A number that is too high is refused. -/
theorem belowOf_eq_none {n : Nat} {w : Word16} (high : n ≤ w.toNat) : belowOf n w = none :=
  dif_neg (Nat.not_lt.2 high)

/-- A word read as a domain number. -/
theorem domainOf_eq_some {w : Word16} {d : Byte} : domainOf w = some d ↔ w.toNat = d.toNat := by
  unfold domainOf
  split
  · next low =>
    have narrow : (w.setWidth 8).toNat = w.toNat := Nat.mod_eq_of_lt low
    rw [Option.some_inj, ← BitVec.toNat_inj, narrow]
  · next high => exact iff_of_false nofun fun e => high (e ▸ d.isLt)

/-- A domain number above 255 is refused (R28, R29). -/
theorem domainOf_eq_none {w : Word16} (high : 255 < w.toNat) : domainOf w = none :=
  if_neg (Nat.not_lt.2 high)

/-- A word read as a counter set number (R102). -/
theorem counterSetOf_eq_some {w : Word16} {k : Nat} :
    counterSetOf w = some k ↔ k < 1024 ∧ w.toNat = k := by
  unfold counterSetOf
  split
  · next low =>
    refine Option.some_inj.trans ⟨fun e => ⟨e ▸ low, e⟩, And.right⟩
  · next high => exact iff_of_false nofun fun ⟨low, e⟩ => high (e ▸ low)

/-- A word read as a profile or NONE. -/
theorem profileOrNoneOf_eq_some {w : Word16} {x : Option ProfileNo} :
    profileOrNoneOf w = some x ↔ (w = 0xFFFF ∧ x = none) ∨ ∃ p, x = some p ∧ w.toNat = p.val := by
  unfold profileOrNoneOf
  rw [codeOr_eq_some none some (belowOf_eq_none (by decide))]
  simp only [belowOf_eq_some]

/-- A word read as a counter set or ANY. -/
theorem setOrAnyOf_eq_some {w : Word16} {q : SetRequest} :
    setOrAnyOf w = some q ↔ (w = 0xFFFE ∧ q = .any) ∨ ∃ k, k < 1024 ∧ w.toNat = k ∧ q = .named k := by
  unfold setOrAnyOf
  rw [codeOr_eq_some (read := counterSetOf) SetRequest.any SetRequest.named (by decide)]
  simp only [counterSetOf_eq_some, and_comm (a := q = _), and_assoc]

/-- A word read as a counter set, ANY or NONE. -/
theorem counterRequestOf_eq_some {w : Word16} {x : Option SetRequest} :
    counterRequestOf w = some x ↔
      (w = 0xFFFF ∧ x = none) ∨ (w = 0xFFFE ∧ x = some .any) ∨
        ∃ k, k < 1024 ∧ w.toNat = k ∧ x = some (.named k) := by
  unfold counterRequestOf
  rw [codeOr_eq_some none some (by decide)]
  refine or_congr_right ⟨?_, ?_⟩
  · rintro ⟨q, rfl, read⟩
    rcases setOrAnyOf_eq_some.1 read with ⟨any, rfl⟩ | ⟨k, low, e, rfl⟩
    · exact .inl ⟨any, rfl⟩
    · exact .inr ⟨k, low, e, rfl⟩
  · rintro (⟨any, rfl⟩ | ⟨k, low, e, rfl⟩)
    · exact ⟨_, rfl, setOrAnyOf_eq_some.2 (.inl ⟨any, rfl⟩)⟩
    · exact ⟨_, rfl, setOrAnyOf_eq_some.2 (.inr ⟨k, low, e, rfl⟩)⟩

/-- A word read as a domain number or ANY. -/
theorem orAny_domainOf_eq_some {w : Word16} {x : Option Byte} :
    orAny domainOf w = some x ↔ (w = 0xFFFE ∧ x = none) ∨ ∃ d, x = some d ∧ w.toNat = d.toNat := by
  unfold orAny
  rw [codeOr_eq_some none some (domainOf_eq_none (by decide))]
  simp only [domainOf_eq_some]

/-- A word read as a lane number or ANY. -/
theorem orAny_laneOf_eq_some {w : Word16} {x : Option LaneNo} :
    orAny laneOf w = some x ↔ (w = 0xFFFE ∧ x = none) ∨ ∃ l, x = some l ∧ w.toNat = l.val := by
  unfold orAny
  rw [codeOr_eq_some (read := laneOf) none some (belowOf_eq_none (by decide))]
  simp only [laneOf, belowOf_eq_some]

/-- A word read as a move limit (Table 2-1). -/
theorem moveLimitOf_eq_some {w : Word16} {x : Nat} :
    moveLimitOf w = some x ↔ w.toNat ≤ 15 ∧ x = w.toNat := by
  simp [moveLimitOf, eq_comm]

/-- A word read as a quantum (R87). -/
theorem quantumOf_eq_some {w x : Word16} : quantumOf w = some x ↔ w ≠ 0 ∧ x = w := by
  simp [quantumOf, eq_comm (a := x)]

/-- Words 10 and 11 read as a ceiling, the high word first (R87). -/
theorem ceilingOf_eq_some {b : Block} {x : Nat} :
    ceilingOf b = some x ↔
      let ceiling := (wordAt b 10).toNat * 65536 + (wordAt b 11).toNat
      1 ≤ ceiling ∧ ceiling ≤ 16777215 ∧ x = ceiling := by
  have joined : (wordAt b 10 ++ wordAt b 11).toNat =
      (wordAt b 10).toNat * 65536 + (wordAt b 11).toNat := by
    rw [BitVec.toNat_append, ← Nat.shiftLeft_add_eq_or_of_lt (wordAt b 11).isLt, Nat.shiftLeft_eq]
  unfold ceilingOf
  dsimp only
  rw [joined, Option.ite_none_right_eq_some, Option.some_inj, and_assoc, eq_comm (b := x)]

/-- A word read as a member set that is not empty (R154). -/
theorem nonEmptyOf_eq_some {w : Word16} {x : LaneSet} :
    nonEmptyOf w = some x ↔ w.setWidth 8 ≠ 0#8 ∧ x = w.setWidth 8 := by
  simp [nonEmptyOf, membersOf, eq_comm]

/-- A field that a selection may name: the value read, or the one kept (R28, R87). -/
theorem fieldOr_eq_some {α : Type} {named : Bool} {value : Option α} {kept x : α} :
    fieldOr named value kept = some x ↔ if named then value = some x else x = kept := by
  cases named <;> simp [fieldOr, eq_comm]

/-- A change that may be named: the value read, or none (R154). -/
theorem whenNamed_eq_some {α : Type} {named : Bool} {value x : Option α} :
    whenNamed named value = some x ↔
      if named then ∃ v, x = some v ∧ value = some v else x = none := by
  cases named <;> simp [whenNamed, eq_comm, and_comm]

/-- A field that any value of its word suits, named or kept. -/
theorem eq_ite_iff_ite_eq {α : Type} {c : Prop} [Decidable c] {x y z : α} :
    (if c then x else y) = z ↔ if c then z = x else z = y := by
  split <;> exact eq_comm

/-! ### The records and operands that a block holds -/

/-- SET_DOMAIN's record, field by field (R28). -/
theorem domainWritten_eq_some {b : Block} {r r' : Domain} :
    domainWritten b r = some r' ↔
      fieldOr (selected b 0) (onOffOf (wordAt b 8)) r.enabled = some r'.enabled ∧
      (if selected b 1 then membersOf (wordAt b 9) else r.members) = r'.members ∧
      (if selected b 2 then (wordAt b 10).getLsbD 0 else r.learning) = r'.learning ∧
      fieldOr (selected b 3) (unknownOf (wordAt b 11)) r.unknownUnicast = some r'.unknownUnicast ∧
      fieldOr (selected b 4) (unknownOf (wordAt b 12)) r.unknownGroup = some r'.unknownGroup ∧
      fieldOr (selected b 5) (profileOrNoneOf (wordAt b 13)) r.defaultProfile =
        some r'.defaultProfile ∧
      (if selected b 6 then (wordAt b 10).getLsbD 1 else r.autoCount) = r'.autoCount ∧
      fieldOr (selected b 7) (moveLimitOf (wordAt b 14)) r.moveLimit = some r'.moveLimit := by
  simp only [domainWritten, Option.bind_eq_bind, Option.bind_eq_some_iff]
  constructor
  · rintro ⟨_, enabled, _, unicast, _, group, _, profile, _, limit, ⟨⟩⟩
    exact ⟨enabled, rfl, rfl, unicast, group, profile, rfl, limit⟩
  · obtain ⟨_, _, _, _, _, _, _, _⟩ := r'
    rintro ⟨enabled, rfl, rfl, unicast, group, profile, rfl, limit⟩
    exact ⟨_, enabled, _, unicast, _, group, _, profile, _, limit, rfl⟩

/-- SET_PROFILE's record, field by field (R87). -/
theorem profileWritten_eq_some {b : Block} {r r' : Profile} :
    profileWritten b r = some r' ↔
      fieldOr (selected b 0) (onOffOf (wordAt b 8)) r.enabled = some r'.enabled ∧
      (if selected b 1 then wordAt b 9 else r.refill) = r'.refill ∧
      fieldOr (selected b 2) (ceilingOf b) r.ceiling = some r'.ceiling ∧
      fieldOr (selected b 3) (meterActionOf (wordAt b 12)) r.action = some r'.action ∧
      fieldOr (selected b 4) (quantumOf (wordAt b 13)) r.quantum = some r'.quantum := by
  simp only [profileWritten, Option.bind_eq_bind, Option.bind_eq_some_iff]
  constructor
  · rintro ⟨_, enabled, _, ceiling, _, action, _, quantum, ⟨⟩⟩
    exact ⟨enabled, rfl, ceiling, action, quantum⟩
  · obtain ⟨_, _, _, _, _⟩ := r'
    rintro ⟨enabled, rfl, ceiling, action, quantum⟩
    exact ⟨_, enabled, _, ceiling, _, action, _, quantum, rfl⟩

/-- The key of a block (R185). -/
theorem keyOf_eq_some {b : Block} {k : Key} :
    keyOf b = some k ↔
      (wordAt b 4).toNat = k.domain.toNat ∧ k.address = wordAt b 5 ++ wordAt b 6 ++ wordAt b 7 := by
  obtain ⟨domain, address⟩ := k
  simp only [keyOf, Option.map_eq_some_iff, domainOf_eq_some, Key.mk.injEq, addressOfBlock]
  constructor
  · rintro ⟨_, read, rfl, rfl⟩
    exact ⟨read, rfl⟩
  · rintro ⟨read, rfl⟩
    exact ⟨domain, read, rfl, rfl⟩

/-- The key of REMOVE_KEY and FIND: one whose address is not broadcast (R158, R159). -/
theorem searchableKeyOf_eq_some {b : Block} {k : Key} :
    searchableKeyOf b = some k ↔ keyOf b = some k ∧ addressClass k.address ≠ .broadcast := by
  unfold searchableKeyOf
  simp only [Option.bind_eq_some_iff, Option.ite_none_left_eq_some, Option.some_inj]
  constructor
  · rintro ⟨_, key, searchable, rfl⟩
    exact ⟨key, searchable⟩
  · rintro ⟨key, searchable⟩
    exact ⟨k, key, searchable, rfl⟩

/-- The kind of an INSERT, and the home lane that kind UNICAST alone reads (R151). -/
theorem kindAndHome_eq_some {kind home : Word16} {isGroup : Bool} {x : Option LaneNo} :
    onOffOf kind = some isGroup ∧ insertHome isGroup home = some x ↔
      (kind = 0 ∧ isGroup = false ∧ ∃ l, x = some l ∧ home.toNat = l.val) ∨
        (kind = 1 ∧ isGroup = true ∧ x = none) := by
  have unicast : insertHome false home = some x ↔ ∃ l, x = some l ∧ home.toNat = l.val := by
    simp only [insertHome, laneOf, Bool.false_eq_true, if_false, Option.map_eq_some_iff,
      belowOf_eq_some, and_comm, eq_comm (a := x)]
  have group : insertHome true home = some x ↔ x = none := Option.some_inj.trans eq_comm
  rw [onOffOf, eitherOf_eq_some, or_and_right, and_assoc, and_assoc]
  refine or_congr (and_congr_right fun _ => and_congr_right ?_) (and_congr_right fun _ => and_congr_right ?_)
  · rintro rfl
    exact unicast
  · rintro rfl
    exact group

/-- INSERT's operands, field by field (R151 test 1). -/
theorem insertOperands_eq_some {b : Block} {o : InsertOperands} :
    insertOperands b = some o ↔
      keyOf b = some o.key ∧
      (onOffOf (wordAt b 8) = some o.isGroup ∧ insertHome o.isGroup (wordAt b 10) = some o.home) ∧
      onOffOf (wordAt b 9) = some o.isStatic ∧
      o.members = membersOf (wordAt b 11) ∧ policyOf (wordAt b 12) = some o.sourcePolicy ∧
      policyOf (wordAt b 13) = some o.destinationPolicy ∧
      profileOrNoneOf (wordAt b 14) = some o.profile ∧
      counterRequestOf (wordAt b 2) = some o.counter := by
  simp only [insertOperands, Option.bind_eq_bind, Option.bind_eq_some_iff]
  constructor
  · rintro ⟨_, key, _, kind, _, cls, _, home, _, source, _, destination, _, profile, _, counter, ⟨⟩⟩
    exact ⟨key, ⟨kind, home⟩, cls, rfl, source, destination, profile, counter⟩
  · obtain ⟨_, _, _, _, _, _, _, _, _⟩ := o
    rintro ⟨key, ⟨kind, home⟩, cls, rfl, source, destination, profile, counter⟩
    exact ⟨_, key, _, kind, _, cls, _, home, _, source, _, destination, _, profile, _, counter, rfl⟩

/-- The value of a change that is read by two codes. -/
theorem some_eitherOf {α : Type} {zero one : α} {w : Word16} {x : Option α} :
    (∃ v, x = some v ∧ eitherOf zero one w = some v) ↔
      (w = 0 ∧ x = some zero) ∨ (w = 1 ∧ x = some one) := by
  simp only [eitherOf_eq_some]
  constructor
  · rintro ⟨v, rfl, ⟨code, rfl⟩ | ⟨code, rfl⟩⟩
    · exact .inl ⟨code, rfl⟩
    · exact .inr ⟨code, rfl⟩
  · rintro (⟨code, rfl⟩ | ⟨code, rfl⟩)
    · exact ⟨_, rfl, .inl ⟨code, rfl⟩⟩
    · exact ⟨_, rfl, .inr ⟨code, rfl⟩⟩

/-- The value of a change that is a profile or NONE. -/
theorem some_profileOrNoneOf {w : Word16} {x : Option (Option ProfileNo)} :
    (∃ v, x = some v ∧ profileOrNoneOf w = some v) ↔
      (w = 0xFFFF ∧ x = some none) ∨ ∃ p, x = some (some p) ∧ w.toNat = p.val := by
  simp only [profileOrNoneOf_eq_some]
  constructor
  · rintro ⟨v, rfl, ⟨code, rfl⟩ | ⟨p, rfl, number⟩⟩
    · exact .inl ⟨code, rfl⟩
    · exact .inr ⟨p, rfl, number⟩
  · rintro (⟨code, rfl⟩ | ⟨p, rfl, number⟩)
    · exact ⟨_, rfl, .inl ⟨code, rfl⟩⟩
    · exact ⟨_, rfl, .inr ⟨p, rfl, number⟩⟩

/-- The value of a change that is a member set. -/
theorem some_nonEmptyOf {w : Word16} {x : Option LaneSet} :
    (∃ v, x = some v ∧ nonEmptyOf w = some v) ↔ w.setWidth 8 ≠ 0#8 ∧ x = some (w.setWidth 8) := by
  simp only [nonEmptyOf_eq_some]
  constructor
  · rintro ⟨v, rfl, nonEmpty, rfl⟩
    exact ⟨nonEmpty, rfl⟩
  · rintro ⟨nonEmpty, rfl⟩
    exact ⟨_, rfl, nonEmpty, rfl⟩

/-- UPDATE's changes, field by field (R154 test 1). -/
theorem updateChanges_eq_some {b : Block} {u : UpdateChanges} :
    updateChanges b = some u ↔
      u.pin = selected b 0 ∧ u.unpin = selected b 1 ∧
      ¬(selected b 0 = true ∧ selected b 1 = true) ∧
      whenNamed (selected b 2) (laneOf (wordAt b 10)) = some u.home ∧
      whenNamed (selected b 3) (nonEmptyOf (wordAt b 11)) = some u.members ∧
      whenNamed (selected b 4) (policyOf (wordAt b 12)) = some u.sourcePolicy ∧
      whenNamed (selected b 5) (policyOf (wordAt b 13)) = some u.destinationPolicy ∧
      whenNamed (selected b 6) (profileOrNoneOf (wordAt b 14)) = some u.meter ∧
      u.unfreeze = selected b 7 ∧ u.clearMoves = selected b 8 := by
  simp only [updateChanges, Option.bind_eq_bind, Option.ite_none_left_eq_some, Option.bind_eq_some_iff,
    Bool.and_eq_true]
  constructor
  · rintro ⟨apart, _, home, _, members, _, source, _, destination, _, meter, ⟨⟩⟩
    exact ⟨rfl, rfl, apart, home, members, source, destination, meter, rfl, rfl⟩
  · obtain ⟨_, _, _, _, _, _, _, _, _⟩ := u
    rintro ⟨rfl, rfl, apart, home, members, source, destination, meter, rfl, rfl⟩
    exact ⟨apart, _, home, _, members, _, source, _, destination, _, meter, rfl⟩

/-- A walk's operands, field by field (R164). -/
theorem walkOperands_eq_some {w : Walk} {q : Selector} :
    walkOperands w = some q ↔
      w.startRef.toNat < 8256 ∧ orAny domainOf w.domain = some q.domain ∧
      orAny laneOf w.lane = some q.lane ∧ threeOf .learned .pinned .both w.cls = some q.cls ∧
      threeOf .unicast .group .both w.kind = some q.kind := by
  simp only [walkOperands, selectorOf, Option.bind_eq_bind, Option.ite_none_left_eq_some,
    Option.bind_eq_some_iff, Config.allRefs, Nat.not_le]
  constructor
  · rintro ⟨start, _, domain, _, lane, _, cls, _, kind, ⟨⟩⟩
    exact ⟨start, domain, lane, cls, kind⟩
  · obtain ⟨_, _, _, _⟩ := q
    rintro ⟨start, domain, lane, cls, kind⟩
    exact ⟨start, _, domain, _, lane, _, cls, _, kind, rfl⟩

/-! ### Selectors -/

/-- The lane part of a selector (R163). -/
theorem laneMet_iff {lane : Option LaneNo} {p : Place} :
    laneMet lane p = true ↔ ∀ l, lane = some l → p = .unicast l := by
  unfold laneMet
  split
  · simp
  · simpa using eq_comm
  · simp

/-- The class part of a selector (R163). -/
theorem classMet_iff {c : WalkClass} {l : Life} :
    classMet c l = true ↔ (c = .learned → l ≠ .pinned) ∧ (c = .pinned → l = .pinned) := by
  cases c <;> cases l <;> simp [classMet, agingOf]

/-- The kind part of a selector (R163). -/
theorem kindMet_iff {k : WalkKind} {p : Place} :
    kindMet k p = true ↔
      (k = .unicast → ∃ l, p = .unicast l) ∧ (k = .group → ∃ m, p = .group m) := by
  cases k <;> cases p <;> simp [kindMet]

/-- An occupied entry matches when it meets all four parts (R163). -/
theorem occupantMatches_iff {q : Selector} {o : Occupant} :
    occupantMatches q o = true ↔
      (∀ d, q.domain = some d → o.key.domain = d) ∧ laneMet q.lane o.place = true ∧
        classMet q.cls o.life = true ∧ kindMet q.kind o.place = true := by
  unfold occupantMatches
  simp only [Bool.and_eq_true, and_assoc]
  refine and_congr_left fun _ => ?_
  cases q.domain with
  | none => simp
  | some d => simp [eq_comm (a := d)]

/-- A match is an occupied entry's (R163). -/
theorem matchesAt_iff {q : Selector} {s : State} {ref : Nat} :
    matchesAt q s ref = true ↔
      ∃ o, (entryAt s ref).occupant = some o ∧ occupantMatches q o = true := by
  unfold matchesAt
  cases (entryAt s ref).occupant <;> simp

/-! ### The fields of SET_DOMAIN, SET_PROFILE, the entry commands and the walks -/

/-- Settles O45: each block's reading is the readings of its words. -/
theorem fieldSelections : Obligations.FieldSelections := by
  refine ⟨⟨fun b r r' => ?_, fun b r r' => ?_⟩, ⟨fun b k => ?_, fun w q => setOrAnyOf_eq_some, fun b o => ?_⟩,
    fun b u => ?_, fun w q => ?_, fun q s ref => ?_⟩
  · simp only [domainWritten_eq_some, fieldOr_eq_some, eq_ite_iff_ite_eq, onOffOf, unknownOf,
      eitherOf_eq_some, profileOrNoneOf_eq_some, moveLimitOf_eq_some]
    rfl
  · simp only [profileWritten_eq_some, fieldOr_eq_some, eq_ite_iff_ite_eq, onOffOf, meterActionOf,
      eitherOf_eq_some, ceilingOf_eq_some, quantumOf_eq_some]
    rfl
  · rw [searchableKeyOf_eq_some, keyOf_eq_some, and_assoc]
  · rw [insertOperands_eq_some, kindAndHome_eq_some, keyOf_eq_some, and_assoc]
    simp only [onOffOf, policyOf, eitherOf_eq_some, profileOrNoneOf_eq_some, counterRequestOf_eq_some]
    rfl
  · simp only [updateChanges_eq_some, whenNamed_eq_some, laneOf, belowOf_eq_some, some_nonEmptyOf,
      policyOf, some_eitherOf, some_profileOrNoneOf]
    rfl
  · simp only [walkOperands_eq_some, orAny_domainOf_eq_some, orAny_laneOf_eq_some, threeOf_eq_some]
  · simp only [matchesAt_iff, occupantMatches_iff, laneMet_iff, classMet_iff, kindMet_iff, and_assoc]

end Sys2Proof.Machine

namespace Sys2Proof.Machine

-- One proof at a time: the whole text then compiles in few threads.
set_option Elab.async false

/-! ### SET_DOMAIN, READ_DOMAIN, SET_PROFILE and READ_PROFILE -/

/-- A command taken directly, by what its work gives. -/
theorem directCommand_finished {c : Byte} {n : SlotNo} {b : Block} {s t : State}
    {work : Block → State → Performed} {st : Status} {values : List Word16}
    (h : CommandRunning c n b s) (e : work b s = (t, st, values)) :
    directCommand c work s = .next (finished n b st values t) := by
  rw [directCommand_eq work h, e]

/-- SET_DOMAIN is refused a domain above 255 (R28). -/
theorem setDomainWork_high {b : Block} (s : State) (high : 255 < (wordAt b 2).toNat) :
    setDomainWork b s = (s, .badArg, [wordAt b 2]) := by
  unfold setDomainWork
  rw [domainOf_eq_none high]
  rfl

/-- SET_DOMAIN is refused a field selection that gives no record (R28). -/
theorem setDomainWork_refused {b : Block} {d : Byte} {s : State} (number : (wordAt b 2).toNat = d.toNat)
    (refused : domainWritten b (domainAt s d) = none) : setDomainWork b s = (s, .badArg, [wordAt b 2]) := by
  unfold setDomainWork
  rw [domainOf_eq_some.2 number]
  dsimp only
  rw [refused]
  rfl

/-- SET_DOMAIN writes the record that its field selection gives (R28). -/
theorem setDomainWork_written {b : Block} {d : Byte} {r : Domain} {s : State}
    (number : (wordAt b 2).toNat = d.toNat) (written : domainWritten b (domainAt s d) = some r) :
    setDomainWork b s = (setDomainAt d r s, .ok, [wordAt b 2]) := by
  unfold setDomainWork
  rw [domainOf_eq_some.2 number]
  dsimp only
  rw [written]

/-- READ_DOMAIN is refused a domain above 255 (R29). -/
theorem readDomainWork_high {b : Block} (s : State) (high : 255 < (wordAt b 2).toNat) :
    readDomainWork b s = (s, .badArg, []) := by
  unfold readDomainWork
  rw [domainOf_eq_none high]
  rfl

/-- READ_DOMAIN returns the record (R29). -/
theorem readDomainWork_eq {b : Block} {d : Byte} (s : State) (number : (wordAt b 2).toNat = d.toNat) :
    readDomainWork b s = (s, .ok, domainWords (domainAt s d)) := by
  unfold readDomainWork
  rw [domainOf_eq_some.2 number]

/-- SET_PROFILE is refused a profile above 31 (R87). -/
theorem setProfileWork_high {b : Block} (s : State) (high : 31 < (wordAt b 2).toNat) :
    setProfileWork b s = (s, .badArg, [wordAt b 2]) := by
  unfold setProfileWork
  rw [belowOf_eq_none high]
  rfl

/-- SET_PROFILE is refused a field selection that gives no profile (R87). -/
theorem setProfileWork_refused {b : Block} {p : ProfileNo} {s : State} (number : (wordAt b 2).toNat = p.val)
    (refused : profileWritten b (profileAt s p) = none) : setProfileWork b s = (s, .badArg, [wordAt b 2]) := by
  unfold setProfileWork
  rw [belowOf_eq_some.2 number]
  dsimp only
  rw [refused]
  rfl

/-- SET_PROFILE writes the profile that its field selection gives (R87). -/
theorem setProfileWork_written {b : Block} {p : ProfileNo} {r : Profile} {s : State}
    (number : (wordAt b 2).toNat = p.val) (written : profileWritten b (profileAt s p) = some r) :
    setProfileWork b s = (setProfileAt p r s, .ok, [wordAt b 2]) := by
  unfold setProfileWork
  rw [belowOf_eq_some.2 number]
  dsimp only
  rw [written]

/-- READ_PROFILE is refused a profile above 31 (R88). -/
theorem readProfileWork_high {b : Block} (s : State) (high : 31 < (wordAt b 2).toNat) :
    readProfileWork b s = (s, .badArg, []) := by
  unfold readProfileWork
  rw [belowOf_eq_none high]
  rfl

/-- READ_PROFILE returns the profile (R88). -/
theorem readProfileWork_eq {b : Block} {p : ProfileNo} (s : State)
    (number : (wordAt b 2).toNat = p.val) :
    readProfileWork b s = (s, .ok, profileWords (profileAt s p)) := by
  unfold readProfileWork
  rw [belowOf_eq_some.2 number]

/-- Settles O44: each command is refused a high number, and otherwise writes or returns its record. -/
theorem domainAndProfileCommands : Obligations.DomainAndProfileCommands := by
  refine ⟨fun n b s => ⟨fun h => ⟨fun high => ?_, fun d number => ⟨fun refused => ?_, fun r written => ?_⟩⟩,
      fun h => ⟨fun high => ?_, fun d number => ?_⟩⟩,
    fun n b s => ⟨fun h => ⟨fun high => ?_, fun p number => ⟨fun refused => ?_, fun r written => ?_⟩⟩,
      fun h => ⟨fun high => ?_, fun p number => ?_⟩⟩⟩
  · exact directCommand_finished h (setDomainWork_high s high)
  · exact directCommand_finished h (setDomainWork_refused number refused)
  · exact directCommand_finished h (setDomainWork_written number written)
  · exact directCommand_finished h (readDomainWork_high s high)
  · refine (directCommand_finished h (readDomainWork_eq s number)).trans ?_
    unfold domainWords profileWord
    cases (domainAt s d).defaultProfile <;> rfl
  · exact directCommand_finished h (setProfileWork_high s high)
  · exact directCommand_finished h (setProfileWork_refused number refused)
  · exact directCommand_finished h (setProfileWork_written number written)
  · exact directCommand_finished h (readProfileWork_high s high)
  · exact directCommand_finished h (readProfileWork_eq s number)

end Sys2Proof.Machine

namespace Sys2Proof.Machine

-- One proof at a time: the whole text then compiles in few threads.
set_option Elab.async false

/-! ### The port set of a verdict -/

/-- One lane set lies within another when each of its lanes is in the other. -/
theorem within_iff {p q : LaneSet} :
    p &&& ~~~q = 0 ↔ ∀ l < 8, p.getLsbD l = true → q.getLsbD l = true := by
  constructor
  · intro h l lt hp
    have bit := congrArg (BitVec.getLsbD · l) h
    simpa [lt, hp] using bit
  · intro h
    refine BitVec.eq_of_getLsbD_eq fun l lt => ?_
    have bit := h l lt
    cases hp : p.getLsbD l <;> simp_all

/-- What the verdicts of the destination stage have in common: their lanes are of the flood set, and a DROP has
none (R51, R57). -/
structure PortsLegal (i : ResolveInput) (v : Verdict) : Prop where
  within : v.ports &&& ~~~(floodSetOf i) = 0
  drop : v.action = .drop → v.ports = 0

section
variable {i : ResolveInput}

/-- A DROP names no lane (R57). -/
theorem portsLegal_dropped (r : Reason) : PortsLegal i (dropped r) := ⟨BitVec.zero_and, fun _ => rfl⟩

/-- A FLOOD names the flood set (R51). -/
theorem portsLegal_flood (r : Reason) : PortsLegal i ⟨.flood, floodSetOf i, r⟩ :=
  ⟨within_iff.2 fun _ _ => id, nofun⟩

/-- A FORWARD to members of the domain but the ingress lane (R53). -/
theorem portsLegal_forward (m : LaneSet) (r : Reason) :
    PortsLegal i ⟨.forward, without i.lane (m &&& i.copy.members), r⟩ := by
  refine ⟨within_iff.2 fun l _ named => ?_, nofun⟩
  simp only [without, onlyLane, floodSetOf, BitVec.getLsbD_and, Bool.and_eq_true] at named ⊢
  exact ⟨named.1.2, named.2⟩

/-- A FORWARD to the one home lane, which is a member other than the ingress lane (R55). -/
theorem portsLegal_home {home : LaneNo} (r : Reason) (other : home ≠ i.lane)
    (member : memberOf home i.copy.members = true) : PortsLegal i ⟨.forward, onlyLane home, r⟩ := by
  refine ⟨within_iff.2 fun l lt named => ?_, nofun⟩
  simp only [onlyLane, BitVec.getLsbD_twoPow, Bool.and_eq_true, decide_eq_true_eq] at named
  obtain ⟨-, rfl⟩ := named
  have apart : i.lane.val ≠ home.val := fun e => other (Fin.ext e.symm)
  simp only [floodSetOf, BitVec.getLsbD_and, BitVec.getLsbD_not, BitVec.getLsbD_twoPow]
  simpa [memberOf, lt, apart] using member

theorem portsLegal_unknownVerdict (p : UnknownPolicy) (r : Reason) :
    PortsLegal i (unknownVerdict p (floodSetOf i) r) := by
  cases p with
  | flood => exact portsLegal_flood r
  | drop => exact portsLegal_dropped _

theorem portsLegal_groupVerdict (found : Option Occupant) :
    PortsLegal i (groupVerdict i found (floodSetOf i)) := by
  unfold groupVerdict
  split
  · exact portsLegal_unknownVerdict _ _
  · split
    · exact portsLegal_dropped _
    · split <;> exact portsLegal_forward _ _

theorem portsLegal_settledVerdict (o : Occupant) : PortsLegal i (settledVerdict i o) := by
  unfold settledVerdict
  split
  · exact portsLegal_dropped _
  · split
    · exact portsLegal_forward _ _
    · split
      · exact portsLegal_dropped _
      · next other =>
        split
        · exact portsLegal_dropped _
        · next member => exact portsLegal_home _ other (by simpa using member)

theorem portsLegal_unicastVerdict (found : Option Occupant) :
    PortsLegal i (unicastVerdict i found (floodSetOf i)) := by
  unfold unicastVerdict
  split
  · exact portsLegal_unknownVerdict _ _
  · split
    · exact portsLegal_unknownVerdict _ _
    · exact portsLegal_settledVerdict _

/-- What is handed back of a resolve: legal ports, no tag record with a DROP, and some lane otherwise (R57,
R62). -/
structure ResultLegal (i : ResolveInput) (r : ResolveResult) : Prop extends PortsLegal i r.verdict where
  record : r.verdict.action = .drop → r.source = none ∧ r.destination = none
  lanes : r.verdict.action ≠ .drop → r.verdict.ports ≠ 0

/-- A DROP handed back without a tag record. -/
theorem resultLegal_dropped (r : Reason) : ResultLegal i ⟨dropped r, none, false, none⟩ :=
  { portsLegal_dropped r with
    record := fun _ => ⟨rfl, rfl⟩
    lanes := fun h => absurd rfl h }

/-- A FORWARD or FLOOD without lanes becomes a DROP, so that what is left names some lane (R57). -/
theorem emptySetRule_legal {v : Verdict} (h : PortsLegal i v) :
    PortsLegal i (emptySetRule v) ∧ ((emptySetRule v).action ≠ .drop → (emptySetRule v).ports ≠ 0) := by
  unfold emptySetRule
  split
  · exact ⟨portsLegal_dropped _, fun h => absurd rfl h⟩
  · next kept => exact ⟨h, fun action empty => kept ⟨action, empty⟩⟩

/-- The destination stage draws a legal verdict that is a DROP or names some lane (R51 to R57). -/
theorem destinationStage_legal (i : ResolveInput) (s : State) :
    PortsLegal i (destinationStage i s).1 ∧
      ((destinationStage i s).1.action ≠ .drop → (destinationStage i s).1.ports ≠ 0) := by
  unfold destinationStage
  dsimp only
  split
  · exact emptySetRule_legal (portsLegal_flood _)
  · exact emptySetRule_legal (portsLegal_groupVerdict _)
  · exact emptySetRule_legal (portsLegal_unicastVerdict _)

theorem resultLegal_deliverAndLearn (source : Option Pair) (s : State) :
    ResultLegal i (deliverAndLearn i source s).2 := by
  obtain ⟨ports, lanes⟩ := destinationStage_legal i s
  unfold deliverAndLearn
  dsimp only
  split
  · next due =>
    have kept : (destinationStage i s).1.action ≠ .drop := by
      simp only [learningDue, Bool.and_eq_true, bne_iff_ne] at due
      exact due.1.1.2
    exact { ports with record := fun drop => absurd drop kept, lanes }
  · split
    · exact { ports with record := fun _ => ⟨rfl, rfl⟩, lanes }
    · next kept => exact { ports with record := fun drop => absurd drop kept, lanes }

theorem resultLegal_resolveStages (s : State) : ResultLegal i (resolveStages i s).2 := by
  unfold resolveStages
  split
  · exact resultLegal_dropped _
  · split
    · exact resultLegal_dropped _
    · exact resultLegal_deliverAndLearn _ _

end

/-- Settles O24: every stage that can end a resolve hands back a legal result. -/
theorem verdictPortsLegal : Obligations.VerdictPortsLegal := by
  intro i s h
  obtain ⟨⟨within, drop⟩, record, lanes⟩ := resultLegal_resolveStages (i := i) s
  refine ⟨performResolve s, (resolveStages i s).2, act_awake _ h.awake, ?_, within,
    fun action => ⟨drop action, record action⟩, lanes⟩
  rw [performResolve_eq h.engine]

end Sys2Proof.Machine

namespace Sys2Proof.Machine

-- One proof at a time: the whole text then compiles in few threads.
set_option Elab.async false

/-! ### A known source -/

/-- A known source at `ref` is the source stage's (R43). -/
theorem sourceStage_known {i : ResolveInput} {ref : Nat} {o : Occupant} {s : State}
    (h : ResolvingKnown i ref o s) :
    sourceStage i s = ((knownSource ref o i s).1, some (pairAt s ref), (knownSource ref o i s).2) := by
  unfold sourceStage
  rw [h.found]
  dsimp only
  rw [h.occupant]

/-- With a known source there is nothing to learn, and the destination stage changes nothing (R51, R58). -/
theorem deliverAndLearn_known (i : ResolveInput) (p : Pair) (s : State) :
    (deliverAndLearn i (some p) s).1 = s := by
  unfold deliverAndLearn
  dsimp only
  rw [if_neg (by simp [learningDue])]
  split <;> rfl

/-- The effects of a resolve whose source is known are those of the source stage (R44 to R50). -/
theorem resolveStages_known {i : ResolveInput} {ref : Nat} {o : Occupant} {s : State}
    (h : ResolvingKnown i ref o s) : (resolveStages i s).1 = (knownSource ref o i s).1 := by
  unfold resolveStages
  rw [gateChecks_pass h.toResolvingPast]
  dsimp only
  rw [sourceStage_known h]
  cases (knownSource ref o i s).2 with
  | none => exact deliverAndLearn_known _ _ _
  | some r => rfl

/-- A resolve whose source is known makes the effects of the source stage, and holds its result. -/
theorem perform_known {i : ResolveInput} {ref : Nat} {o : Occupant} {s : State}
    (h : ResolvingKnown i ref o s) :
    exec (.resolve .perform) s = .next { (knownSource ref o i s).1 with
      engine := .resolved i (resolveStages i s).2 s.occupancy } := by
  refine (act_awake performResolve h.awake).trans ?_
  rw [performResolve_eq h.engine, resolveStages_known h]

/-- An allowed source that its home test passes goes on to its meter (R45 to R50). -/
theorem knownSource_passes {i : ResolveInput} {ref : Nat} {o : Occupant} {s t : State}
    (allowed : o.sourcePolicy = .allow)
    (home : homeTest ref { o with life := heard o.life } i
      (setOccupant ref { o with life := heard o.life } s) = (t, none)) :
    knownSource ref o i s = applyMeter ref i.lane t := by
  unfold knownSource
  rw [if_neg (by simp [allowed]), home]

/-- A NEW source on another lane takes it as its home (R47). -/
theorem homeTest_new {i : ResolveInput} {ref : Nat} {o : Occupant} {s : State} {a : Aging} {g : Origin}
    (other : o.place ≠ .unicast i.lane) (new : o.life = .new a g) :
    homeTest ref o i s = (setOccupant ref { o with place := .unicast i.lane } s, none) := by
  unfold homeTest
  rw [if_neg other, new]

/-- A LIVE source on another lane that is not frozen moves to it (R48). -/
theorem homeTest_live {i : ResolveInput} {ref : Nat} {o : Occupant} {s : State} {a : Aging}
    (other : o.place ≠ .unicast i.lane) (live : o.life = .live a) (free : a.frozen = false) :
    homeTest ref o i s = (rehome ref o a i.lane i.copy.moveLimit s, none) := by
  unfold homeTest
  rw [if_neg other, live]
  exact if_neg (by simp [free])

/-- LIVE or STALE, a source heard is LIVE with hit yes (R44). -/
theorem heard_learned {l : Life} {a : Aging} (h : l = .live a ∨ l = .stale a) :
    heard l = .live { a with hit := true } := by
  rcases h with rfl | rfl <;> rfl

/-- The source at `ref` stands as `o` but for its meter, with its lane's moves statistic, the table
statistics and the pending causes as given (R47, R48). -/
structure HomedAs (ref : Nat) (l : LaneNo) (o : Occupant) (moves : Nat) (stats : TableStats) (irq : Word16)
    (t : State) : Prop where
  occupant : ∃ m, (entryAt t ref).occupant = some { o with meter := m }
  moves : (laneAt t l).stats.moves = moves
  stats : t.tableStats = stats
  irq : t.irqPending = irq

/-- A pause demand is no move (R97, R98). -/
theorem pauseDemand_moves (quantum : Word16) (x : Lane) :
    (pauseDemand quantum x).stats.moves = x.stats.moves := by
  unfold pauseDemand
  split
  · rfl
  · split
    · rfl
    · split <;> rfl

section
variable {ref : Nat} {l : LaneNo} {o : Occupant} {moves : Nat} {stats : TableStats} {irq : Word16} {t : State}

theorem HomedAs.bringUpEntry (h : HomedAs ref l o moves stats irq t) :
    HomedAs ref l o moves stats irq (bringUpEntry ref t) := by
  obtain ⟨m, old⟩ := h.occupant
  unfold Machine.bringUpEntry
  split
  · exact h
  · next o' m' p active =>
    obtain ⟨old', -, -⟩ := activeMeter_some active
    obtain rfl := Option.some.inj (old'.symm.trans old)
    exact { h with occupant := ⟨_, by rw [entryAt_setOccupant, if_pos rfl]⟩ }

theorem HomedAs.chargeEntry (h : HomedAs ref l o moves stats irq t) (c : Charge) :
    HomedAs ref l o moves stats irq (chargeEntry ref c t) := by
  have frame := chargeEntry_frame ref c t
  exact {
    occupant := by rw [entryAt_chargeEntry]; exact h.occupant
    moves := (congrArg (fun u : State => (laneAt u l).stats.moves) frame :).trans h.moves
    stats := (congrArg State.tableStats frame :).trans h.stats
    irq := (congrArg State.irqPending frame :).trans h.irq }

/-- The meter of a source changes its entry's meter, its set and its lane's pause record, and nothing of where
it is homed (R50). -/
theorem HomedAs.applyMeter (h : HomedAs ref l o moves stats irq t) :
    HomedAs ref l o moves stats irq (applyMeter ref l t).1 := by
  unfold Machine.applyMeter
  split
  · exact h
  · dsimp only
    split
    · exact h.bringUpEntry
    · split
      · exact h.bringUpEntry.chargeEntry _
      · exact { h.bringUpEntry with
          moves := by
            rw [laneAt_onLane, if_pos rfl, pauseDemand_moves]
            exact h.bringUpEntry.moves }

end

/-- What a counted move makes of a learned source's fields, and whether it freezes the entry (R36, R48). -/
theorem movedAging_eq (limit : Nat) {a : Aging} (free : a.frozen = false) :
    movedAging limit a =
      (⟨a.hit, min (a.moves + 1) 15, decide (limit ≠ 0 ∧ limit ≤ min (a.moves + 1) 15)⟩,
        decide (limit ≠ 0 ∧ limit ≤ min (a.moves + 1) 15)) := by
  unfold movedAging
  rw [free]
  rfl

/-- The re-home of a source and its move, counted on the lane (R48). -/
theorem homedAs_moved (ref : Nat) (l : LaneNo) (o : Occupant) (s : State) :
    HomedAs ref l o (upOne (laneAt s l).stats.moves) s.tableStats s.irqPending
      (onLaneStats l (fun st => { st with moves := raise32 st.moves }) (setOccupant ref o s)) where
  occupant := ⟨o.meter, congrArg Entry.occupant ((entryAt_setOccupant ref ref o s).trans (if_pos rfl))⟩
  moves := by
    unfold onLaneStats
    rw [laneAt_onLane, if_pos rfl]
    rfl
  stats := rfl
  irq := rfl

/-- A move that does not freeze (R48). -/
theorem rehome_moves {ref : Nat} {o : Occupant} {a : Aging} (l : LaneNo) {limit : Nat} (s : State)
    (free : a.frozen = false) (under : limit = 0 ∨ min (a.moves + 1) 15 < limit) :
    HomedAs ref l { o with place := .unicast l, life := .live ⟨a.hit, min (a.moves + 1) 15, false⟩ }
      (upOne (laneAt s l).stats.moves) s.tableStats s.irqPending (rehome ref o a l limit s) := by
  have stays : decide (limit ≠ 0 ∧ limit ≤ min (a.moves + 1) 15) = false := by
    rw [decide_eq_false_iff_not]
    omega
  unfold rehome
  rw [movedAging_eq limit free, stays]
  exact homedAs_moved _ _ _ _

/-- A move that freezes: counted, and raised as MOVE_FROZEN (R36, R48). -/
theorem rehome_freezes {ref : Nat} {o : Occupant} {a : Aging} (l : LaneNo) {limit : Nat} (s : State)
    (free : a.frozen = false) (limited : limit ≠ 0) (reached : limit ≤ min (a.moves + 1) 15) :
    HomedAs ref l { o with place := .unicast l, life := .live ⟨a.hit, min (a.moves + 1) 15, true⟩ }
      (upOne (laneAt s l).stats.moves)
      { s.tableStats with frozen := upOne s.tableStats.frozen } (s.irqPending ||| 0x1000#16)
      (rehome ref o a l limit s) := by
  unfold rehome
  rw [movedAging_eq limit free, decide_eq_true ⟨limited, reached⟩]
  exact { homedAs_moved ref l _ s with
    stats := rfl
    irq := rfl }

/-- A resolve whose home test passes leaves its source where the home test homed it. -/
theorem perform_homed {i : ResolveInput} {ref : Nat} {o o' : Occupant} {s u : State} {moves : Nat}
    {stats : TableStats} {irq : Word16} (h : ResolvingKnown i ref o s) (allowed : o.sourcePolicy = .allow)
    (home : homeTest ref { o with life := heard o.life } i
      (setOccupant ref { o with life := heard o.life } s) = (u, none))
    (homed : HomedAs ref i.lane o' moves stats irq u) :
    ∃ t, exec (.resolve .perform) s = .next t ∧ HomedAs ref i.lane o' moves stats irq t := by
  refine ⟨_, perform_known h, ?_⟩
  rw [knownSource_passes allowed home]
  exact { homed.applyMeter with }

/-- Settles O19: the home test re-homes the source, and what follows it leaves the home and the move. -/
theorem sourceRehomed : Obligations.SourceRehomed := by
  intro i ref o s h allowed other
  let o' : Occupant := { o with life := heard o.life }
  let u := setOccupant ref o' s
  refine ⟨fun a g new => ?_, fun a learned free => ?_⟩
  · have life : o'.life = .new { a with hit := true } g := congrArg heard new
    have home : homeTest ref o' i u = (setOccupant ref { o' with place := .unicast i.lane } u, none) :=
      homeTest_new other life
    have homed : HomedAs ref i.lane { o' with place := .unicast i.lane } (laneAt s i.lane).stats.moves
        s.tableStats s.irqPending (setOccupant ref { o' with place := .unicast i.lane } u) :=
      ⟨⟨o'.meter, by rw [entryAt_setOccupant, if_pos rfl]⟩, rfl, rfl, rfl⟩
    obtain ⟨t, run, ⟨m, entry⟩, moves, stats, -⟩ := perform_homed h allowed home homed
    exact ⟨t, _, run, entry, rfl, life, stats, moves⟩
  · have life : o'.life = .live { a with hit := true } := heard_learned learned
    have home : homeTest ref o' i u =
        (rehome ref o' { a with hit := true } i.lane i.copy.moveLimit u, none) :=
      homeTest_live other life free
    by_cases under : i.copy.moveLimit = 0 ∨ min (a.moves + 1) 15 < i.copy.moveLimit
    · obtain ⟨t, run, ⟨m, entry⟩, moves, stats, irq⟩ :=
        perform_homed h allowed home (rehome_moves i.lane u free under)
      exact ⟨t, _, run, entry, rfl, moves, fun _ => ⟨rfl, stats, irq⟩, fun limited reached => by omega⟩
    · obtain ⟨limited, reached⟩ := not_or.1 under
      obtain ⟨t, run, ⟨m, entry⟩, moves, stats, irq⟩ :=
        perform_homed h allowed home (rehome_freezes i.lane u free limited (Nat.le_of_not_lt reached))
      exact ⟨t, _, run, entry, rfl, moves, fun h => absurd h under, fun _ _ => ⟨rfl, stats, irq⟩⟩

end Sys2Proof.Machine

namespace Sys2Proof.Machine

-- One proof at a time: the whole text then compiles in few threads.
set_option Elab.async false

/-! ### The result of a resolve that is dropped before the destination stage -/

/-- The gate of a DISABLED domain (R40). -/
theorem gateChecks_off {i : ResolveInput} (off : i.copy.enabled = false) :
    gateChecks i = some .domainOff := if_pos (by rw [off]; rfl)

/-- The gate for a lane outside the member set (R41). -/
theorem gateChecks_outside {i : ResolveInput} (on : i.copy.enabled = true)
    (outside : i.copy.members.getLsbD i.lane.val = false) : gateChecks i = some .notMember := by
  unfold gateChecks memberOf
  rw [if_neg (by simp [on]), if_pos (by rw [outside]; rfl)]

/-- The gate for a source that is no unicast address (R42). -/
theorem gateChecks_badSource {i : ResolveInput} (on : i.copy.enabled = true)
    (member : i.copy.members.getLsbD i.lane.val = true) (source : addressClass i.source ≠ .unicast) :
    gateChecks i = some .badSource := by
  unfold gateChecks memberOf
  rw [if_neg (by simp [on]), if_neg (by rw [member]; simp), if_pos source]

/-- A gate check that draws a DROP ends the resolve without an effect (R40 to R42). -/
theorem perform_gated {i : ResolveInput} {r : Reason} {s : State} (h : Resolving i s)
    (gated : gateChecks i = some r) :
    exec (.resolve .perform) s =
      .next { s with engine := .resolved i ⟨⟨.drop, 0, r⟩, none, false, none⟩ s.occupancy } := by
  refine (act_awake performResolve h.awake).trans ?_
  rw [performResolve_eq h.engine, resolveStages, gated]
  rfl

/-- A source stage that draws a DROP ends the resolve without a tag record (R62). -/
theorem resolveStages_dropped {i : ResolveInput} {ref : Nat} {o : Occupant} {r : Reason} {s : State}
    (h : ResolvingKnown i ref o s) (drop : (knownSource ref o i s).2 = some r) :
    resolveStages i s = ((knownSource ref o i s).1, ⟨dropped r, none, false, none⟩) := by
  unfold resolveStages
  rw [gateChecks_pass h.toResolvingPast]
  dsimp only
  rw [sourceStage_known h, drop]

/-- A known source that no test of the source stage drops goes on to its destination (R51). -/
theorem resolveStages_delivers {i : ResolveInput} {ref : Nat} {o : Occupant} {s : State}
    (h : ResolvingKnown i ref o s) (kept : (knownSource ref o i s).2 = none) :
    resolveStages i s = deliverAndLearn i (some (pairAt s ref)) (knownSource ref o i s).1 := by
  unfold resolveStages
  rw [gateChecks_pass h.toResolvingPast]
  dsimp only
  rw [sourceStage_known h, kept]

/-- A known source dropped with nothing done but its entry heard (R44). -/
theorem perform_droppedWith {i : ResolveInput} {ref : Nat} {o o' : Occupant} {r : Reason} {s : State}
    (h : ResolvingKnown i ref o s) (drop : knownSource ref o i s = (setOccupant ref o' s, some r)) :
    exec (.resolve .perform) s = .next (droppedWith i ref o' r s) := by
  rw [perform_known h, resolveStages_dropped h (congrArg Prod.snd drop), drop]
  rfl

/-- A denied source is dropped once it has been heard (R45). -/
theorem knownSource_denied {i : ResolveInput} {ref : Nat} {o : Occupant} (s : State)
    (denied : o.sourcePolicy = .deny) :
    knownSource ref o i s =
      (setOccupant ref { o with life := heard o.life } s, some .sourceDenied) := if_pos denied

/-- A source that its home test drops ends its stage there (R46, R49). -/
theorem knownSource_homeDropped {i : ResolveInput} {ref : Nat} {o : Occupant} {r : Reason} {s t : State}
    (allowed : o.sourcePolicy = .allow)
    (home : homeTest ref { o with life := heard o.life } i
      (setOccupant ref { o with life := heard o.life } s) = (t, some r)) :
    knownSource ref o i s = (t, some r) := by
  unfold knownSource
  rw [if_neg (by simp [allowed]), home]

/-- A PINNED source with another home (R46). -/
theorem homeTest_pinned {i : ResolveInput} {ref : Nat} {o : Occupant} (s : State)
    (other : o.place ≠ .unicast i.lane) (pinned : o.life = .pinned) :
    homeTest ref o i s = (s, some .pinnedElsewhere) := by
  unfold homeTest
  rw [if_neg other, pinned]

/-- A frozen source with another home (R49). -/
theorem homeTest_frozen {i : ResolveInput} {ref : Nat} {o : Occupant} {a : Aging} (s : State)
    (other : o.place ≠ .unicast i.lane) (live : o.life = .live a) (frozen : a.frozen = true) :
    homeTest ref o i s = (s, some .moveFrozen) := by
  unfold homeTest
  rw [if_neg other, live]
  exact if_pos frozen

/-- A PINNED source is heard without a change (R44). -/
theorem heard_of_pinned {o : Occupant} (pinned : o.life = .pinned) :
    { o with life := heard o.life } = o := by
  rw [heard_pinned.2 pinned, ← pinned]

/-- Settles O17: the first test that fails, at the gate or in the source stage, ends the resolve. -/
theorem lookupsDropped : Obligations.LookupsDropped := by
  refine ⟨fun i s h => ⟨fun off => ?_, fun on outside => ?_, fun on member source => ?_⟩,
    fun i ref o s h => ⟨fun denied => ?_, fun allowed other pinned => ?_,
      fun a allowed other learned frozen => ?_⟩⟩
  · exact perform_gated h (gateChecks_off off)
  · exact perform_gated h (gateChecks_outside on outside)
  · exact perform_gated h (gateChecks_badSource on member source)
  · exact perform_droppedWith h (knownSource_denied s denied)
  · have drop := knownSource_homeDropped allowed
      (homeTest_pinned (setOccupant ref { o with life := heard o.life } s) other (heard_pinned.2 pinned))
    rw [heard_of_pinned pinned] at drop
    exact perform_droppedWith h drop
  · have drop := knownSource_homeDropped allowed
      (homeTest_frozen (setOccupant ref { o with life := heard o.life } s) other (heard_learned learned)
        frozen)
    rw [heard_learned learned] at drop
    exact perform_droppedWith h drop

end Sys2Proof.Machine

namespace Sys2Proof.Machine

-- One proof at a time: the whole text then compiles in few threads.
set_option Elab.async false

/-! ### The entry of a known source -/

/-- The entry at `ref` became occupied by `o` under its generation, and no other entry changed. -/
structure EntryBecomes (ref : Nat) (o : Occupant) (s t : State) : Prop where
  entry : entryAt t ref = ⟨(entryAt s ref).generation, some o⟩
  others : ∀ k, k ≠ ref → entryAt t k = entryAt s k

section
variable {ref : Nat} {o o' : Occupant} {s t u : State}

theorem EntryBecomes.trans (h : EntryBecomes ref o s t) (g : EntryBecomes ref o' t u) :
    EntryBecomes ref o' s u where
  entry := by rw [g.entry, h.entry]
  others k hk := (g.others k hk).trans (h.others k hk)

theorem EntryBecomes.congr (h : EntryBecomes ref o s t) (same : ∀ k, entryAt u k = entryAt t k) :
    EntryBecomes ref o s u :=
  ⟨(same ref).trans h.entry, fun k hk => (same k).trans (h.others k hk)⟩

theorem EntryBecomes.occupant (h : EntryBecomes ref o s t) : (entryAt t ref).occupant = some o :=
  congrArg Entry.occupant h.entry

/-- A lifetime goes on under its pair. -/
theorem EntryBecomes.pairAt (h : EntryBecomes ref o s t) (k : Nat) : pairAt t k = pairAt s k := by
  unfold Machine.pairAt
  by_cases hk : k = ref
  · rw [hk, h.entry]
  · rw [h.others k hk]

theorem EntryBecomes.setOccupant (ref : Nat) (o : Occupant) (s : State) :
    EntryBecomes ref o s (setOccupant ref o s) :=
  ⟨by rw [entryAt_setOccupant, if_pos rfl], fun k hk => by rw [entryAt_setOccupant, if_neg hk]⟩

/-- A move writes the entry's home and life (R48). -/
theorem EntryBecomes.rehome (a : Aging) (l : LaneNo) (limit : Nat) :
    EntryBecomes ref { o with place := .unicast l, life := .live (movedAging limit a).1 } s
      (rehome ref o a l limit s) := by
  refine (EntryBecomes.setOccupant _ _ _).congr fun k => ?_
  unfold Machine.rehome
  dsimp only
  split <;> rfl

/-! ### The meter of a known source -/

/-- The meter brought up is that of an enabled profile; none is without one (R92). -/
theorem activeMeter_eq {m : Meter} (old : (entryAt s ref).occupant = some o) (meter : o.meter = some m) :
    activeMeter s ref =
      if (profileAt s m.profile).enabled then some (o, m, profileAt s m.profile) else none := by
  unfold activeMeter
  rw [old]
  dsimp only
  rw [meter]

/-- An entry without a meter has none to bring up (R92). -/
theorem activeMeter_none (old : (entryAt s ref).occupant = some o) (meter : o.meter = none) :
    activeMeter s ref = none := by
  unfold activeMeter
  rw [old]
  dsimp only
  rw [meter]

theorem meterNow_none (s : State) (meter : o.meter = none) : meterNow s o = none := by
  rw [meterNow, meter]
  rfl

/-- Under a disabled profile a meter stands (R92). -/
theorem meterNow_disabled {m : Meter} (meter : o.meter = some m)
    (off : (profileAt s m.profile).enabled = false) : meterNow s o = some m := by
  rw [meterNow, meter, Option.map_some]
  dsimp only
  rw [off]
  rfl

/-- Under an enabled profile a meter is brought up to now (R91). -/
theorem meterNow_enabled {m : Meter} (meter : o.meter = some m)
    (on : (profileAt s m.profile).enabled = true) :
    meterNow s o = some (broughtUp (profileAt s m.profile) s.ms m) := by
  rw [meterNow, meter, Option.map_some]
  dsimp only
  rw [on]
  rfl

/-- A meter is brought up by its profile and the time alone. -/
theorem meterNow_congr (profiles : t.profiles = s.profiles) (ms : t.ms = s.ms) :
    meterNow t o = meterNow s o := by
  unfold meterNow profileAt
  rw [profiles, ms]

/-- A bring-up writes the meter as it is now (R91, R92). -/
theorem EntryBecomes.bringUpEntry (old : (entryAt s ref).occupant = some o) :
    EntryBecomes ref { o with meter := meterNow s o } s (bringUpEntry ref s) := by
  have stands (same : meterNow s o = o.meter) :
      EntryBecomes ref { o with meter := meterNow s o } s s := by
    rw [same]
    exact ⟨congrArg (Entry.mk _) old, fun _ _ => rfl⟩
  unfold Machine.bringUpEntry
  cases meter : o.meter with
  | none =>
    rw [activeMeter_none old meter]
    exact stands ((meterNow_none s meter).trans meter.symm)
  | some m =>
    rw [activeMeter_eq old meter]
    cases on : (profileAt s m.profile).enabled with
    | false => exact stands ((meterNow_disabled meter on).trans meter.symm)
    | true =>
      rw [meterNow_enabled meter on]
      exact .setOccupant _ _ _

/-- A bring-up writes an entry alone. -/
theorem bringUpEntry_frame (ref : Nat) (s : State) :
    { bringUpEntry ref s with entries := s.entries } = s := by
  unfold bringUpEntry
  split <;> rfl

/-- Without a meter in force the meter test does nothing, like the bring-up (R50, R92). -/
theorem applyMeter_inactive (l : LaneNo) (inactive : activeMeter s ref = none) :
    applyMeter ref l s = (bringUpEntry ref s, none) := by
  unfold applyMeter bringUpEntry
  rw [inactive]

/-- A meter in force with credit admits its source (R50). -/
theorem applyMeter_credit {m : Meter} (l : LaneNo) (old : (entryAt s ref).occupant = some o)
    (meter : o.meter = some m) (on : (profileAt s m.profile).enabled = true)
    (credit : 0 < (broughtUp (profileAt s m.profile) s.ms m).credit) :
    applyMeter ref l s = (bringUpEntry ref s, none) := by
  unfold applyMeter
  rw [activeMeter_eq old meter, if_pos on]
  exact if_pos credit

/-- A meter in force whose credit is spent, under the action DROP (R50). -/
theorem applyMeter_drops {m : Meter} (l : LaneNo) (old : (entryAt s ref).occupant = some o)
    (meter : o.meter = some m) (on : (profileAt s m.profile).enabled = true)
    (spent : (broughtUp (profileAt s m.profile) s.ms m).credit ≤ 0)
    (action : (profileAt s m.profile).action = .drop) :
    applyMeter ref l s = (chargeEntry ref .meterDrop (bringUpEntry ref s), some .meter) := by
  unfold applyMeter
  rw [activeMeter_eq old meter, if_pos on]
  refine (if_neg (not_lt.2 spent)).trans ?_
  rw [action]

/-- A meter in force whose credit is spent, under the action PAUSE (R50). -/
theorem applyMeter_pauses {m : Meter} (l : LaneNo) (old : (entryAt s ref).occupant = some o)
    (meter : o.meter = some m) (on : (profileAt s m.profile).enabled = true)
    (spent : (broughtUp (profileAt s m.profile) s.ms m).credit ≤ 0)
    (action : (profileAt s m.profile).action = .pause) :
    applyMeter ref l s =
      (onLane l (pauseDemand (profileAt s m.profile).quantum) (bringUpEntry ref s), none) := by
  unfold applyMeter
  rw [activeMeter_eq old meter, if_pos on]
  refine (if_neg (not_lt.2 spent)).trans ?_
  rw [action]

/-- A source without a meter in force, or with credit, is admitted (R50). -/
theorem applyMeter_admits (l : LaneNo) (old : (entryAt s ref).occupant = some o)
    (credit : ∀ m, meterNow s o = some m → (profileAt s m.profile).enabled = true → 0 < m.credit) :
    applyMeter ref l s = (bringUpEntry ref s, none) := by
  cases meter : o.meter with
  | none => exact applyMeter_inactive l (activeMeter_none old meter)
  | some m =>
    by_cases on : (profileAt s m.profile).enabled = true
    · exact applyMeter_credit l old meter on (credit _ (meterNow_enabled meter on) on)
    · exact applyMeter_inactive l ((activeMeter_eq old meter).trans (if_neg on))

/-- The meter test changes of the entries what the bring-up does (R50). -/
theorem EntryBecomes.applyMeter (l : LaneNo) (h : EntryBecomes ref o s t) :
    EntryBecomes ref { o with meter := meterNow t o } s (applyMeter ref l t).1 := by
  refine (h.trans (.bringUpEntry h.occupant)).congr fun k => ?_
  unfold Machine.applyMeter
  split
  · next inactive => rw [Machine.bringUpEntry, inactive]
  · dsimp only
    split
    · rfl
    · split
      · exact entryAt_chargeEntry _ _ _ _
      · rfl

end

/-! ### A known source is heard -/

/-- What a source that has been heard keeps through the rest of its resolve (R44, R47, R48). -/
structure HeardAs (o o' : Occupant) : Prop where
  new : ∀ a g, o.life = .new a g → o'.life = .new { a with hit := true } g
  learned : ∀ a, o.life = .live a ∨ o.life = .stale a → ∃ a', o'.life = .live a' ∧ a'.hit = true
  pinned : o.life = .pinned → o'.life = .pinned ∧ o'.place = o.place
  key : o'.key = o.key
  sourcePolicy : o'.sourcePolicy = o.sourcePolicy
  destinationPolicy : o'.destinationPolicy = o.destinationPolicy
  counterSet : o'.counterSet = o.counterSet

/-- A source just heard (R44). -/
theorem heardAs_heard (o : Occupant) : HeardAs o { o with life := heard o.life } where
  new _ _ h := congrArg heard h
  learned _ h := ⟨_, heard_learned h, rfl⟩
  pinned h := ⟨heard_pinned.2 h, rfl⟩
  key := rfl
  sourcePolicy := rfl
  destinationPolicy := rfl
  counterSet := rfl

/-! ### The home test of a source that it does not drop -/

/-- The source is at home on the ingress lane, or one that is homed there: NEW, or learned and not frozen (R46
to R48). -/
def Homes (i : ResolveInput) (o : Occupant) : Prop :=
  o.place = .unicast i.lane ∨ (∃ a g, o.life = .new a g) ∨
    ∃ a, (o.life = .live a ∨ o.life = .stale a) ∧ a.frozen = false

/-- The life of a source that is homed, and whether that is a counted move (R44, R47, R48). -/
def homedLife (i : ResolveInput) (o : Occupant) : Life × Bool :=
  if o.place = .unicast i.lane then (heard o.life, false) else
    match o.life with
    | .live a | .stale a =>
      let moves := min (a.moves + 1) 15
      (.live ⟨true, moves, decide (i.copy.moveLimit ≠ 0 ∧ i.copy.moveLimit ≤ moves)⟩, true)
    | life => (heard life, false)

/-- The source homed on the ingress lane. -/
def homedOccupant (i : ResolveInput) (o : Occupant) : Occupant :=
  { o with place := .unicast i.lane, life := (homedLife i o).1 }

/-- The ingress lane with a counted move in its statistic (R48). -/
def homedLane (i : ResolveInput) (o : Occupant) (s : State) : Lane :=
  if (homedLife i o).2 then
    { laneAt s i.lane with
      stats := { (laneAt s i.lane).stats with moves := upOne (laneAt s i.lane).stats.moves } }
  else laneAt s i.lane

/-- The home test has homed the source, and the meter test is next. -/
structure AtHome (i : ResolveInput) (ref : Nat) (o : Occupant) (s u : State) : Prop where
  entry : EntryBecomes ref (homedOccupant i o) s u
  lane : laneAt u i.lane = homedLane i o s
  profiles : u.profiles = s.profiles
  counterSets : u.counterSets = s.counterSets
  ms : u.ms = s.ms

section
variable {i : ResolveInput} {ref : Nat} {o : Occupant} {s : State}

theorem homedLife_home (home : o.place = .unicast i.lane) : homedLife i o = (heard o.life, false) :=
  if_pos home

theorem homedLife_new {a : Aging} {g : Origin} (other : o.place ≠ .unicast i.lane)
    (new : o.life = .new a g) : homedLife i o = (heard o.life, false) := by
  unfold homedLife
  rw [if_neg other, new]

theorem homedLife_learned {a : Aging} (other : o.place ≠ .unicast i.lane)
    (learned : o.life = .live a ∨ o.life = .stale a) :
    homedLife i o = (.live ⟨true, min (a.moves + 1) 15,
      decide (i.copy.moveLimit ≠ 0 ∧ i.copy.moveLimit ≤ min (a.moves + 1) 15)⟩, true) := by
  unfold homedLife
  rw [if_neg other]
  rcases learned with life | life <;> rw [life]

/-- A home with no counted move to it leaves the lane. -/
theorem homedLane_still (still : (homedLife i o).2 = false) : homedLane i o s = laneAt s i.lane := by
  unfold homedLane
  rw [still]
  rfl

/-- A source at home stays as it is (R46). -/
theorem homeTest_home (home : o.place = .unicast i.lane) : homeTest ref o i s = (s, none) := if_pos home

/-- A counted move reaches the moves statistic of the lane (R48). -/
theorem laneAt_rehome (a : Aging) (l : LaneNo) (limit : Nat) :
    laneAt (rehome ref o a l limit s) l =
      { laneAt s l with stats := { (laneAt s l).stats with moves := upOne (laneAt s l).stats.moves } } := by
  have moved : laneAt (onLaneStats l (fun st => { st with moves := raise32 st.moves })
      (setOccupant ref { o with place := .unicast l, life := .live (movedAging limit a).1 } s)) l =
      { laneAt s l with stats := { (laneAt s l).stats with moves := upOne (laneAt s l).stats.moves } } := by
    rw [onLaneStats, laneAt_onLane, if_pos rfl]
    rfl
  unfold rehome
  dsimp only
  split
  · exact moved
  · exact moved

/-- A move leaves the profiles, the counter sets and the time (R48). -/
theorem rehome_keeps (a : Aging) (l : LaneNo) (limit : Nat) :
    (rehome ref o a l limit s).profiles = s.profiles ∧
      (rehome ref o a l limit s).counterSets = s.counterSets ∧ (rehome ref o a l limit s).ms = s.ms := by
  unfold rehome
  dsimp only
  split <;> simp [onLaneStats, onLane, setOccupant]

/-- A home written to the entry without a move (R46, R47). -/
theorem atHome_of_still (still : (homedLife i o).2 = false) {o' : Occupant} {u : State}
    (entry : EntryBecomes ref (homedOccupant i o) s (setOccupant ref o' u)) (lanes : u.lanes = s.lanes)
    (profiles : u.profiles = s.profiles) (counterSets : u.counterSets = s.counterSets) (ms : u.ms = s.ms) :
    AtHome i ref o s (setOccupant ref o' u) where
  entry := entry
  lane := by
    rw [homedLane_still still, laneAt, laneAt, setOccupant, setEntry_lanes, lanes]
  profiles := (setEntry_profiles _ _ _).trans profiles
  counterSets := (setEntry_counterSets _ _ _).trans counterSets
  ms := (setEntry_ms _ _ _).trans ms

/-- A source at home, or homed by its home test, is at home after it (R46 to R48). -/
theorem homeTest_homes (homes : Homes i o) :
    ∃ u, homeTest ref { o with life := heard o.life } i
      (setOccupant ref { o with life := heard o.life } s) = (u, none) ∧ AtHome i ref o s u := by
  have hear := EntryBecomes.setOccupant ref { o with life := heard o.life } s
  by_cases home : o.place = .unicast i.lane
  · have life := homedLife_home home
    refine ⟨_, homeTest_home home, atHome_of_still (congrArg Prod.snd life) ?_ rfl rfl rfl rfl⟩
    rw [homedOccupant, life, ← home]
    exact hear
  · rcases homes.resolve_left home with ⟨a, g, new⟩ | ⟨a, learned, free⟩
    · have life := homedLife_new home new
      refine ⟨_, homeTest_new home (congrArg heard new),
        atHome_of_still (congrArg Prod.snd life) ?_ (setEntry_lanes _ _ _) (setEntry_profiles _ _ _)
          (setEntry_counterSets _ _ _) (setEntry_ms _ _ _)⟩
      rw [homedOccupant, life]
      exact hear.trans (.setOccupant _ _ _)
    · have life := homedLife_learned home learned
      obtain ⟨profiles, counterSets, ms⟩ := rehome_keeps (ref := ref) (o := { o with life := heard o.life })
        (s := setOccupant ref { o with life := heard o.life } s) { a with hit := true } i.lane i.copy.moveLimit
      refine ⟨_, homeTest_live home (heard_learned learned) free, ?_, ?_, profiles, counterSets, ms⟩
      · have moved := hear.trans (EntryBecomes.rehome (o := { o with life := heard o.life })
          { a with hit := true } i.lane i.copy.moveLimit)
        rw [movedAging_eq i.copy.moveLimit (a := { a with hit := true }) free] at moved
        rw [homedOccupant, life]
        exact moved
      · rw [laneAt_rehome, homedLane, life]
        rfl

/-- A station is NEW, learned or PINNED. -/
theorem life_cases (l : Life) :
    (∃ a g, l = .new a g) ∨ (∃ a, l = .live a ∨ l = .stale a) ∨ l = .pinned := by
  cases l with
  | new a g => exact .inl ⟨a, g, rfl⟩
  | live a => exact .inr (.inl ⟨a, .inl rfl⟩)
  | stale a => exact .inr (.inl ⟨a, .inr rfl⟩)
  | pinned => exact .inr (.inr rfl)

/-- A source with another home that is not homed is dropped with nothing done but being heard (R46, R49). -/
theorem homeTest_drops (stays : ¬Homes i o) :
    ∃ r, homeTest ref { o with life := heard o.life } i
      (setOccupant ref { o with life := heard o.life } s) =
        (setOccupant ref { o with life := heard o.life } s, some r) := by
  obtain ⟨other, old⟩ := not_or.1 stays
  obtain ⟨old, held⟩ := not_or.1 old
  rcases life_cases o.life with ⟨a, g, new⟩ | ⟨a, learned⟩ | pinned
  · exact absurd ⟨a, g, new⟩ old
  · have frozen : a.frozen = true := (Bool.not_eq_false _).mp fun free => held ⟨a, learned, free⟩
    exact ⟨_, homeTest_frozen (a := { a with hit := true }) _ other (heard_learned learned) frozen⟩
  · exact ⟨_, homeTest_pinned _ other (heard_pinned.2 pinned)⟩

/-- A source that is homed stays heard (R44, R47, R48). -/
theorem HeardAs.homed (homes : Homes i o) : HeardAs o (homedOccupant i o) := by
  have same (life : homedLife i o = (heard o.life, false))
      (place : o.life = .pinned → o.place = .unicast i.lane) : HeardAs o (homedOccupant i o) := by
    rw [homedOccupant, life]
    exact { heardAs_heard o with pinned := fun h => ⟨heard_pinned.2 h, (place h).symm⟩ }
  by_cases home : o.place = .unicast i.lane
  · exact same (homedLife_home home) fun _ => home
  · rcases homes.resolve_left home with ⟨a, g, new⟩ | ⟨a, learned, free⟩
    · exact same (homedLife_new home new) fun h => nomatch new.symm.trans h
    · rw [homedOccupant, homedLife_learned home learned]
      exact { heardAs_heard o with
        new := fun _ _ h => by rcases learned with life | life <;> cases life.symm.trans h
        learned := fun _ _ => ⟨_, rfl, rfl⟩
        pinned := fun h => by rcases learned with life | life <;> cases life.symm.trans h }

/-- Bringing a meter up keeps a source heard (R50). -/
theorem HeardAs.withMeter {o' : Occupant} (h : HeardAs o o') (m : Option Meter) :
    HeardAs o { o' with meter := m } := { h with }

/-- Whatever test ends it, the source stage leaves a known source heard, and no other entry changed (R44). -/
theorem knownSource_heard (ref : Nat) (o : Occupant) (i : ResolveInput) (s : State) :
    ∃ o', HeardAs o o' ∧ EntryBecomes ref o' s (knownSource ref o i s).1 := by
  have hear := EntryBecomes.setOccupant ref { o with life := heard o.life } s
  cases policy : o.sourcePolicy with
  | deny => exact ⟨_, heardAs_heard o, by rw [knownSource_denied s policy]; exact hear⟩
  | allow =>
    by_cases homes : Homes i o
    · obtain ⟨u, home, at_⟩ := homeTest_homes (ref := ref) (s := s) homes
      rw [knownSource_passes policy home]
      exact ⟨_, (HeardAs.homed homes).withMeter _, at_.entry.applyMeter i.lane⟩
    · obtain ⟨r, home⟩ := homeTest_drops (ref := ref) (s := s) homes
      rw [knownSource_homeDropped policy home]
      exact ⟨_, heardAs_heard o, hear⟩

end

/-- Settles O18: the source stage leaves the source heard, and the stages after it change no entry. -/
theorem knownSourceHeard : Obligations.KnownSourceHeard := by
  intro i ref o s h
  obtain ⟨o', heardAs, entries⟩ := knownSource_heard ref o i s
  exact ⟨_, o', perform_known h, entries.entry, heardAs.new, heardAs.learned, heardAs.pinned, heardAs.key,
    heardAs.sourcePolicy, heardAs.destinationPolicy, heardAs.counterSet, entries.others⟩

end Sys2Proof.Machine

namespace Sys2Proof.Machine

-- One proof at a time: the whole text then compiles in few threads.
set_option Elab.async false

/-! ### The destination stage draws no METER -/

/-- FLOOD under a reason and UNKNOWN_DROPPED are no METER (R34). -/
theorem unknownVerdict_reason {r : Reason} (p : UnknownPolicy) (floodSet : LaneSet) (other : r ≠ .meter) :
    (unknownVerdict p floodSet r).reason ≠ .meter := by
  cases p with
  | flood => exact other
  | drop => exact nofun

theorem groupVerdict_reason (i : ResolveInput) (found : Option Occupant) (floodSet : LaneSet) :
    (groupVerdict i found floodSet).reason ≠ .meter := by
  unfold groupVerdict
  split
  · exact unknownVerdict_reason _ _ nofun
  · split
    · exact nofun
    · split <;> exact nofun

theorem settledVerdict_reason (i : ResolveInput) (o : Occupant) :
    (settledVerdict i o).reason ≠ .meter := by
  unfold settledVerdict
  split
  · exact nofun
  · split
    · exact nofun
    · split
      · exact nofun
      · split <;> exact nofun

theorem unicastVerdict_reason (i : ResolveInput) (found : Option Occupant) (floodSet : LaneSet) :
    (unicastVerdict i found floodSet).reason ≠ .meter := by
  unfold unicastVerdict
  split
  · exact unknownVerdict_reason _ _ nofun
  · split
    · exact unknownVerdict_reason _ _ nofun
    · exact settledVerdict_reason _ _

theorem emptySetRule_reason {v : Verdict} (other : v.reason ≠ .meter) :
    (emptySetRule v).reason ≠ .meter := by
  unfold emptySetRule
  split
  · exact nofun
  · exact other

theorem destinationStage_reason (i : ResolveInput) (s : State) :
    (destinationStage i s).1.reason ≠ .meter := by
  unfold destinationStage
  dsimp only
  split
  · exact emptySetRule_reason nofun
  · exact emptySetRule_reason (groupVerdict_reason _ _ _)
  · exact emptySetRule_reason (unicastVerdict_reason _ _ _)

/-- A DROP keeps no destination (R55). -/
theorem destinationStage_drop {i : ResolveInput} {s : State} (drop : (destinationStage i s).1.action = .drop) :
    (destinationStage i s).2 = none := by
  unfold destinationStage at drop ⊢
  dsimp only at drop ⊢
  split at drop
  · rfl
  · rfl
  · exact if_neg (by rw [drop]; exact nofun)

/-- Where nothing is learned, the destination stage's verdict is handed back with the pair it keeps, and the
source's pair unless it is a DROP (R58, R62, R63). -/
theorem deliverAndLearn_still {i : ResolveInput} {source : Option Pair} {s : State}
    (still : learningDue i source (destinationStage i s).1 s = false) :
    deliverAndLearn i source s =
      (s, ⟨(destinationStage i s).1,
        if (destinationStage i s).1.action = .drop then none else source, false,
        (destinationStage i s).2.map (pairAt s)⟩) := by
  unfold deliverAndLearn
  dsimp only
  rw [if_neg (by simp [still])]
  split
  · next drop =>
    rw [destinationStage_drop drop]
    rfl
  · rfl

/-- There is nothing to learn of a known source (R58). -/
theorem learningDue_some (i : ResolveInput) (p : Pair) (v : Verdict) (s : State) :
    learningDue i (some p) v s = false := by
  simp [learningDue]

/-! ### The meter test on a source at home -/

/-- A charge leaves the lanes. -/
theorem laneAt_chargeEntry (ref : Nat) (c : Charge) (s : State) (l : LaneNo) :
    laneAt (chargeEntry ref c s) l = laneAt s l :=
  (congrArg (fun u : State => laneAt u l) (chargeEntry_frame ref c s) :)

/-- A charge of a lifetime to the ATTACHED set it names (R108). -/
theorem counterSetAt_chargedTo {n : Nat} {owner : Pair} (f : Counts → Counts) {s : State}
    (attached : (counterSetAt s n).state = .attached owner) :
    counterSetAt (chargedTo (some n) owner f s) n = ⟨.attached owner, f (counterSetAt s n).counts⟩ := by
  unfold chargedTo
  dsimp only
  rw [if_pos attached]
  exact (counterSetAt_setCounterSetAt n n _ s).trans (if_pos rfl)

section
variable {i : ResolveInput} {ref : Nat} {o : Occupant} {s u : State}

theorem AtHome.profileAt (h : AtHome i ref o s u) (p : ProfileNo) : profileAt u p = profileAt s p := by
  unfold Machine.profileAt
  rw [h.profiles]

/-- The entry of a source at home once its meter was tested (R50). -/
theorem AtHome.tested (h : AtHome i ref o s u) :
    EntryBecomes ref { homedOccupant i o with meter := meterNow s o } s (applyMeter ref i.lane u).1 := by
  have entry := h.entry.applyMeter i.lane
  rw [meterNow_congr h.profiles h.ms] at entry
  exact entry

/-- A bring-up leaves the lane and the counter sets of a source at home. -/
theorem AtHome.broughtUp_keeps (h : AtHome i ref o s u) :
    laneAt (bringUpEntry ref u) i.lane = homedLane i o s ∧
      (bringUpEntry ref u).counterSets = s.counterSets := by
  have frame := bringUpEntry_frame ref u
  exact ⟨(congrArg (fun v : State => laneAt v i.lane) frame :).trans h.lane,
    (congrArg State.counterSets frame :).trans h.counterSets⟩

/-- The meter of a source at home with credit left admits it (R50). -/
theorem AtHome.admits (h : AtHome i ref o s u)
    (credit : ∀ m, meterNow s o = some m → (Machine.profileAt s m.profile).enabled = true → 0 < m.credit) :
    applyMeter ref i.lane u = (bringUpEntry ref u, none) := by
  refine applyMeter_admits i.lane h.entry.occupant fun m now on => ?_
  rw [meterNow_congr h.profiles h.ms] at now
  rw [h.profileAt] at on
  exact credit m now on

end

/-- A known source that no test of the source stage drops draws no METER (R50). -/
theorem resolveStages_reason {i : ResolveInput} {ref : Nat} {o : Occupant} {s : State}
    (h : ResolvingKnown i ref o s) (kept : (knownSource ref o i s).2 = none) :
    (resolveStages i s).2.verdict.reason ≠ .meter := by
  rw [resolveStages_delivers h kept, deliverAndLearn_still (learningDue_some _ _ _ _)]
  exact destinationStage_reason _ _

/-- The set of a source at home takes a meter drop when it is ATTACHED to it, and no set changes when it names
none (R50, R108). -/
theorem AtHome.charged {i : ResolveInput} {ref : Nat} {o : Occupant} {s u : State} (h : AtHome i ref o s u) :
    let t := chargeEntry ref .meterDrop (bringUpEntry ref u)
    (o.counterSet = none → t.counterSets = s.counterSets) ∧
      ∀ n, o.counterSet = some n → (counterSetAt s n).state = .attached (pairAt s ref) →
        counterSetAt t n = ⟨.attached (pairAt s ref),
          { (counterSetAt s n).counts with
            meterDrops := upOne (counterSetAt s n).counts.meterDrops }⟩ := by
  intro t
  have entry := h.entry.trans (.bringUpEntry h.entry.occupant)
  have charge : t = chargedTo o.counterSet (pairAt s ref) (Machine.charged .meterDrop) (bringUpEntry ref u) :=
    (chargeEntry_eq (p := pairAt s ref) .meterDrop entry.entry :)
  obtain ⟨-, sets⟩ := h.broughtUp_keeps
  rw [charge]
  refine ⟨fun unnamed => ?_, fun n named attached => ?_⟩
  · rw [unnamed]
    exact sets
  · have same : counterSetAt (bringUpEntry ref u) n = counterSetAt s n := by
      rw [counterSetAt, sets, counterSetAt]
    rw [named, counterSetAt_chargedTo _ (by rw [same]; exact attached), same]
    rfl

/-- Settles O20: the home test leaves the source at home, and the meter test is one of R50's cases. -/
theorem meterTested : Obligations.MeterTested := by
  intro i ref o m s h allowed meter homes p credit moved home x
  obtain ⟨u, tested, at_⟩ := homeTest_homes (ref := ref) (s := s) homes
  have source := knownSource_passes allowed tested
  have run := perform_known h
  have entry := at_.tested
  obtain ⟨lane, sets⟩ := at_.broughtUp_keeps
  have profile : profileAt u m.profile = p := at_.profileAt m.profile
  have up : (broughtUp (profileAt u m.profile) u.ms m).credit = credit := by
    rw [profile, at_.ms]
    rfl
  have admitted
      (left : ∀ m', meterNow s o = some m' → (profileAt s m'.profile).enabled = true → 0 < m'.credit) :
      (resolveStages i s).2.verdict.reason ≠ .meter ∧ laneAt (applyMeter ref i.lane u).1 i.lane = x ∧
        (applyMeter ref i.lane u).1.counterSets = s.counterSets := by
    have pass := at_.admits left
    rw [pass]
    exact ⟨resolveStages_reason h (by rw [source, pass]), lane, sets⟩
  rw [source] at run
  refine ⟨_, _, run, rfl, fun off => ?_, fun on => ?_, fun on left => ?_, fun on spent action => ?_,
    fun on spent action => ?_⟩
  · have now := meterNow_disabled meter off
    rw [now, ← meter] at entry
    refine ⟨entry.occupant, admitted fun m' now' on => ?_⟩
    obtain rfl := Option.some.inj (now.symm.trans now')
    exact absurd (off.symm.trans on) nofun
  · rw [meterNow_enabled meter on] at entry
    exact entry.occupant
  · refine admitted fun m' now' _ => ?_
    obtain rfl := Option.some.inj ((meterNow_enabled meter on).symm.trans now')
    exact left
  · have drop := applyMeter_drops i.lane at_.entry.occupant meter (by rw [profile]; exact on)
      (by rw [up]; exact spent) (by rw [profile]; exact action)
    have handed := congrArg Prod.snd (resolveStages_dropped h (by rw [source, drop]))
    rw [drop]
    exact ⟨handed, (laneAt_chargeEntry _ _ _ _).trans lane, at_.charged⟩
  · have pause := applyMeter_pauses i.lane at_.entry.occupant meter (by rw [profile]; exact on)
      (by rw [up]; exact spent) (by rw [profile]; exact action)
    have kept := resolveStages_reason h (by rw [source, pause])
    rw [pause, profile]
    refine ⟨kept, sets, ?_⟩
    exact (laneAt_onLane _ _ _ _).trans ((if_pos rfl).trans (congrArg _ lane))

end Sys2Proof.Machine

namespace Sys2Proof.Machine

-- One proof at a time: the whole text then compiles in few threads.
set_option Elab.async false

/-! ### The destination stage meets its rules -/

section
variable {i : ResolveInput} {s : State}

/-- A DROP stays as it is (R57). -/
theorem emptySetRule_dropped (r : Reason) : emptySetRule (dropped r) = dropped r :=
  if_neg fun h => h.1 rfl

/-- A FLOOD to no lane is a DROP (R57). -/
theorem emptySetRule_flood (r : Reason) : emptySetRule ⟨.flood, floodSetOf i, r⟩ = floodVerdict i r := by
  unfold emptySetRule floodVerdict
  simp only [ne_eq, reduceCtorEq, not_false_eq_true, true_and]
  rfl

/-- A FORWARD to no lane is a DROP (R57). -/
theorem emptySetRule_forward_empty {ports : LaneSet} (empty : ports = 0) :
    emptySetRule ⟨.forward, ports, .none⟩ = dropped .emptySet := if_pos ⟨nofun, empty⟩

/-- A FORWARD to some lane stays as it is (R57). -/
theorem emptySetRule_forward {ports : LaneSet} (lanes : ports ≠ 0) :
    emptySetRule ⟨.forward, ports, .none⟩ = ⟨.forward, ports, .none⟩ := if_neg fun h => lanes h.2

theorem floodVerdict_action (r : Reason) : (floodVerdict i r).action ≠ .forward := by
  unfold floodVerdict
  split <;> exact nofun

/-- The entry found for the destination (R51). -/
def destinationEntry (i : ResolveInput) (s : State) : Option Occupant :=
  (searchKey s ⟨i.domain, i.destination⟩).bind fun ref => (entryAt s ref).occupant

theorem destinationEntry_none (absent : searchKey s ⟨i.domain, i.destination⟩ = none) :
    destinationEntry i s = none := by
  rw [destinationEntry, absent]
  rfl

theorem destinationEntry_some {ref : Nat} {o : Occupant}
    (found : searchKey s ⟨i.domain, i.destination⟩ = some ref) (old : (entryAt s ref).occupant = some o) :
    destinationEntry i s = some o := by
  rw [destinationEntry, found]
  exact old

theorem destinationStage_broadcast (broadcast : addressClass i.destination = .broadcast) :
    destinationStage i s = (floodVerdict i .broadcast, none) := by
  unfold destinationStage
  rw [broadcast]
  exact congrArg (·, none) (emptySetRule_flood _)

theorem destinationStage_group (group : addressClass i.destination = .group) :
    destinationStage i s = (emptySetRule (groupVerdict i (destinationEntry i s) (floodSetOf i)), none) := by
  unfold destinationStage
  rw [group]
  rfl

/-- A unicast destination's ref is kept by a FORWARD alone (R55). -/
theorem destinationStage_unicast {v : Verdict} (unicast : addressClass i.destination = .unicast)
    (verdict : emptySetRule (unicastVerdict i (destinationEntry i s) (floodSetOf i)) = v) :
    destinationStage i s =
      (v, if v.action = .forward then searchKey s ⟨i.domain, i.destination⟩ else none) := by
  rw [← verdict]
  unfold destinationStage
  rw [unicast]
  rfl

/-- The verdicts of the unknown-destination policy (R34, R57). -/
theorem emptySetRule_unknownVerdict {p : UnknownPolicy} (r : Reason) :
    (p = .flood → emptySetRule (unknownVerdict p (floodSetOf i) r) = floodVerdict i r) ∧
      (p = .drop → emptySetRule (unknownVerdict p (floodSetOf i) r) = dropped .unknownDropped) := by
  refine ⟨fun flood => ?_, fun drop => ?_⟩
  · rw [flood]
    exact emptySetRule_flood r
  · rw [drop]
    exact emptySetRule_dropped _

/-- A group's lanes in the flood set (R53). -/
theorem without_and (m : LaneSet) : without i.lane (m &&& i.copy.members) = m &&& floodSetOf i :=
  BitVec.and_assoc _ _ _

/-- A denied group (R53). -/
theorem groupVerdict_deny {o : Occupant} (floodSet : LaneSet) (deny : o.destinationPolicy = .deny) :
    groupVerdict i (some o) floodSet = dropped .destDenied := if_pos deny

/-- A group forwarded to its members (R53). -/
theorem groupVerdict_allow {o : Occupant} {m : LaneSet} (floodSet : LaneSet)
    (allow : o.destinationPolicy = .allow) (group : o.place = .group m) :
    groupVerdict i (some o) floodSet = ⟨.forward, m &&& floodSetOf i, .none⟩ := by
  rw [← without_and]
  unfold groupVerdict
  dsimp only
  rw [if_neg (by rw [allow]; exact nofun), group]

/-- A NEW destination is treated as an unknown one (R54). -/
theorem unicastVerdict_new {o : Occupant} {a : Aging} {g : Origin} (floodSet : LaneSet)
    (new : o.life = .new a g) :
    unicastVerdict i (some o) floodSet = unknownVerdict i.copy.unknownUnicast floodSet .newDest := by
  unfold unicastVerdict
  dsimp only
  rw [new]

/-- Any other destination found is tested (R55). -/
theorem unicastVerdict_settled {o : Occupant} (floodSet : LaneSet) (old : ∀ a g, o.life ≠ .new a g) :
    unicastVerdict i (some o) floodSet = settledVerdict i o := by
  unfold unicastVerdict
  dsimp only
  split
  · next a g new => exact absurd new (old a g)
  · rfl

/-- The tests of a destination found LIVE, STALE or PINNED, in order (R55). -/
theorem settledVerdict_deny {o : Occupant} (deny : o.destinationPolicy = .deny) :
    settledVerdict i o = dropped .destDenied := if_pos deny

theorem settledVerdict_unicast {o : Occupant} {home : LaneNo} (allow : o.destinationPolicy = .allow)
    (place : o.place = .unicast home) :
    settledVerdict i o =
      if home = i.lane then dropped .sameLane
      else if !memberOf home i.copy.members then dropped .homeOutside
      else ⟨.forward, onlyLane home, .none⟩ := by
  unfold settledVerdict
  rw [if_neg (by rw [allow]; exact nofun), place]

/-- A lane alone is some lane. -/
theorem onlyLane_ne_zero (l : LaneNo) : onlyLane l ≠ 0 := by
  revert l
  decide

variable {answers : Verdict → Option Pair → Prop}

/-- What the destination stage answers meets the rules of broadcasts, groups and unicasts (R51 to R57). -/
theorem destinationRules_of_stage
    (stage : answers (destinationStage i s).1 ((destinationStage i s).2.map (pairAt s))) :
    DestinationRules i s answers := by
  refine ⟨fun broadcast => ?_, fun group => ?_, fun unicast => ?_⟩
  · rw [destinationStage_broadcast broadcast] at stage
    exact stage
  · have answer {v : Verdict}
        (verdict : emptySetRule (groupVerdict i (destinationEntry i s) (floodSetOf i)) = v) :
        answers v none := by
      rw [destinationStage_group group, verdict] at stage
      exact stage
    refine ⟨fun absent => ?_, fun ref o found old => ⟨fun deny => ?_, fun m allow place => ?_⟩⟩
    · rw [destinationEntry_none absent] at answer
      obtain ⟨flood, drop⟩ := emptySetRule_unknownVerdict (i := i) (p := i.copy.unknownGroup) .unknownGroup
      exact ⟨fun p => answer (flood p), fun p => answer (drop p)⟩
    · rw [destinationEntry_some found old, groupVerdict_deny _ deny] at answer
      exact answer (emptySetRule_dropped _)
    · rw [destinationEntry_some found old, groupVerdict_allow _ allow place] at answer
      exact ⟨fun lanes => answer (emptySetRule_forward lanes),
        fun empty => answer (emptySetRule_forward_empty empty)⟩
  · have answer {v : Verdict}
        (verdict : emptySetRule (unicastVerdict i (destinationEntry i s) (floodSetOf i)) = v)
        (kept : v.action ≠ .forward) : answers v none := by
      rw [destinationStage_unicast unicast verdict, if_neg kept] at stage
      exact stage
    refine ⟨fun absent => ?_, fun ref o found old => ⟨fun a g new => ?_, fun settled =>
      ⟨fun deny => ?_, fun home allow place => ?_⟩⟩⟩
    · rw [destinationEntry_none absent] at answer
      obtain ⟨flood, drop⟩ :=
        emptySetRule_unknownVerdict (i := i) (p := i.copy.unknownUnicast) .unknownUnicast
      exact ⟨fun p => answer (flood p) (floodVerdict_action _), fun p => answer (drop p) nofun⟩
    · rw [destinationEntry_some found old, unicastVerdict_new _ new] at answer
      obtain ⟨flood, drop⟩ := emptySetRule_unknownVerdict (i := i) (p := i.copy.unknownUnicast) .newDest
      exact ⟨fun p => answer (flood p) (floodVerdict_action _), fun p => answer (drop p) nofun⟩
    · rw [destinationEntry_some found old, unicastVerdict_settled _ settled,
        settledVerdict_deny deny] at answer
      exact answer (emptySetRule_dropped _) nofun
    · have entry := destinationEntry_some found old
      have verdict := (unicastVerdict_settled (i := i) (floodSetOf i) settled).trans
        (settledVerdict_unicast allow place)
      refine ⟨fun same => answer ?_ nofun, fun other outside => answer ?_ nofun, fun other member => ?_⟩
      · rw [entry, verdict, if_pos same]
        exact emptySetRule_dropped _
      · rw [entry, verdict, if_neg other, if_pos (by rw [memberOf, outside]; rfl)]
        exact emptySetRule_dropped _
      · have forward : emptySetRule (unicastVerdict i (destinationEntry i s) (floodSetOf i)) =
            ⟨.forward, onlyLane home, .none⟩ := by
          rw [entry, verdict, if_neg other, if_neg (by rw [memberOf, member]; exact nofun)]
          exact emptySetRule_forward (onlyLane_ne_zero home)
        rw [destinationStage_unicast unicast forward, if_pos rfl, found] at stage
        exact stage

end

/-! ### The destination stage after a source was heard -/

section
variable {ref : Nat} {o : Occupant} {m : Option Meter} {s t : State}

/-- A source heard is found where it was: a search reads keys alone (R8). -/
theorem searchKey_heard (old : (entryAt s ref).occupant = some o)
    (entry : EntryBecomes ref { o with life := heard o.life, meter := m } s t)
    (hash : t.hashSelect = s.hashSelect) (k : Key) : searchKey t k = searchKey s k := by
  have same : holds t k = holds s k := by
    funext r
    unfold holds
    by_cases hr : r = ref
    · rw [hr, entry.occupant, old]
    · rw [entry.others r hr]
  rw [searchKey, searchKey, same, placesOf, placesOf, hash]

/-- A destination's verdict does not depend on what hearing it as a source changes (R44, R53 to R56). -/
theorem unicastVerdict_heard (i : ResolveInput) (o : Occupant) (m : Option Meter) (floodSet : LaneSet) :
    unicastVerdict i (some { o with life := heard o.life, meter := m }) floodSet =
      unicastVerdict i (some o) floodSet := by
  obtain ⟨key, place, sourcePolicy, destinationPolicy, life, meter, counterSet⟩ := o
  cases life <;> rfl

/-- The destination stage answers the same once the source was heard (R51). -/
theorem destinationStage_heard (i : ResolveInput) (old : (entryAt s ref).occupant = some o)
    (entry : EntryBecomes ref { o with life := heard o.life, meter := m } s t)
    (hash : t.hashSelect = s.hashSelect) : destinationStage i t = destinationStage i s := by
  have search := searchKey_heard old entry hash ⟨i.domain, i.destination⟩
  have verdicts (r : Nat) :
      groupVerdict i (entryAt t r).occupant = groupVerdict i (entryAt s r).occupant ∧
        unicastVerdict i (entryAt t r).occupant = unicastVerdict i (entryAt s r).occupant := by
    by_cases hr : r = ref
    · rw [hr, entry.occupant, old]
      exact ⟨rfl, funext (unicastVerdict_heard i o m)⟩
    · rw [entry.others r hr]
      exact ⟨rfl, rfl⟩
  unfold destinationStage
  rw [search]
  cases searchKey s ⟨i.domain, i.destination⟩ with
  | none => rfl
  | some r =>
    obtain ⟨group, unicast⟩ := verdicts r
    simp only [Option.bind_some, group, unicast]

end

/-! ### Sources that do not change the destination stage -/

/-- An unknown source is not learned where its domain or its lane does not learn (R58). -/
theorem learningDue_off {i : ResolveInput} {s : State} (source : Option Pair) (v : Verdict)
    (off : i.copy.learning = false ∨ (laneAt s i.lane).learning = false) :
    learningDue i source v s = false := by
  rcases off with off | off <;> simp [learningDue, off]

/-- A known source at home that its meter admits is heard and brought up, and goes on to its destination (R44,
R50). -/
theorem knownSource_admitted {i : ResolveInput} {ref : Nat} {o : Occupant} {s : State}
    (allowed : o.sourcePolicy = .allow) (home : o.place = .unicast i.lane)
    (credit : ∀ m, meterNow s o = some m → (profileAt s m.profile).enabled = true → 0 < m.credit) :
    knownSource ref o i s =
      (bringUpEntry ref (setOccupant ref { o with life := heard o.life } s), none) :=
  (knownSource_passes allowed (homeTest_home home)).trans
    (applyMeter_admits i.lane (EntryBecomes.setOccupant ref _ s).occupant credit)

/-- An entry written and brought up, and an engine taken, are no other change. -/
theorem bringUp_setOccupant_frame (ref : Nat) (o : Occupant) (s : State) (e : Engine) :
    { bringUpEntry ref (setOccupant ref o s) with entries := s.entries, engine := e } =
      { s with engine := e } :=
  congrArg (fun v : State => { v with entries := s.entries, engine := e })
    (bringUpEntry_frame ref (setOccupant ref o s))

/-- Settles O22: the destination stage answers by its rules, and reads the same before and after the source was
heard. -/
theorem destinationTable : Obligations.DestinationTable := by
  refine ⟨fun i s h off => destinationRules_of_stage ?_,
    fun i ref o s h allowed home credit => destinationRules_of_stage ?_⟩
  · refine (act_awake performResolve h.awake).trans ?_
    rw [performResolve_eq h.engine, resolveStages_unknown h, deliverAndLearn_still (learningDue_off _ _ off),
      ite_self]
  · let u := setOccupant ref { o with life := heard o.life } s
    have source := knownSource_admitted (ref := ref) allowed home credit
    have frame := bringUpEntry_frame ref u
    have hear := EntryBecomes.setOccupant ref { o with life := heard o.life } s
    have entry : EntryBecomes ref { o with life := heard o.life, meter := meterNow s o } s
        (bringUpEntry ref u) :=
      hear.trans (.bringUpEntry hear.occupant)
    have stage := destinationStage_heard i h.occupant entry (congrArg State.hashSelect frame :)
    have pairs : pairAt (bringUpEntry ref u) = pairAt s := funext entry.pairAt
    have run := perform_known h
    rw [resolveStages_delivers h (by rw [source]), source, deliverAndLearn_still (learningDue_some _ _ _ _),
      stage, pairs] at run
    exact ⟨_, run, entry.entry, entry.others, bringUp_setOccupant_frame _ _ _ _⟩

end Sys2Proof.Machine

namespace Sys2Proof.Machine

-- One proof at a time: the whole text then compiles in few threads.
set_option Elab.async false

/-! ### The age tick, SET_AGING and SWEEP_NOW -/

/-- SWEEP_OVERRUN's bit in the interrupt words (section 11.4). -/
theorem causeWord_sweepOverrun : causeWord .sweepOverrun = 0x2000#16 := by decide

/-- An age tick with the sweep IDLE starts it (R72). -/
theorem ageTick_idle {s : State} (idle : s.sweepRunning = false) :
    ageTick s = startSweep { s with ageTimer := startAgeTimer s.agePeriod } := by
  unfold ageTick
  exact if_neg (by rw [idle]; decide)

/-- An age tick with the sweep RUNNING is lost (R72, R85). -/
theorem ageTick_running {s : State} (running : s.sweepRunning = true) :
    ageTick s = raiseCause .sweepOverrun
      (onTableStats (fun st => { st with sweepOverruns := raise32 st.sweepOverruns })
        { s with ageTimer := startAgeTimer s.agePeriod }) := by
  unfold ageTick
  exact if_pos running

/-- An age tick that is due is taken (R71). -/
theorem exec_ageTick {s : State} (h : awake s) (due : s.ageTimer = some 0) :
    exec .ageTick s = .next (ageTick s) :=
  (act_awake _ h).trans (congrArg _ (if_pos due))

/-- SET_AGING is refused a period above 4095 s (R73). -/
theorem setAgingWork_high {b : Block} (s : State) (high : 4095 < (wordAt b 2).toNat) :
    setAgingWork b s = (s, .badArg, []) := by
  unfold setAgingWork
  exact if_pos high

/-- SET_AGING stores a period of at most 4095 s and restarts or stops the timer (R73). -/
theorem setAgingWork_stored {b : Block} (s : State) (low : (wordAt b 2).toNat ≤ 4095) :
    setAgingWork b s =
      ({ s with agePeriod := (wordAt b 2).toNat, ageTimer := startAgeTimer (wordAt b 2).toNat }, .ok, []) := by
  unfold setAgingWork
  exact if_neg (not_lt.2 low)

/-- SWEEP_NOW is refused while a sweep runs (R78). -/
theorem sweepNowWork_running (b : Block) {s : State} (running : s.sweepRunning = true) :
    sweepNowWork b s = (s, .sweepRunning, []) := by
  unfold sweepNowWork
  exact if_pos running

/-- SWEEP_NOW starts a sweep when none runs (R78). -/
theorem sweepNowWork_idle (b : Block) {s : State} (idle : s.sweepRunning = false) :
    sweepNowWork b s = (startSweep s, .ok, []) := by
  unfold sweepNowWork
  exact if_neg (by rw [idle]; decide)

/-- Settles O32: the tick and each command are one of their two cases. -/
theorem ageTickAndAgingCommands : Obligations.AgeTickAndAgingCommands := by
  refine ⟨fun s h due => ⟨fun idle => ?_, fun running => ?_⟩,
    fun n b s => ⟨fun h => ⟨fun high => ?_, fun low => ?_⟩,
      fun h => ⟨fun running => ?_, fun idle => ?_⟩⟩⟩
  · rw [exec_ageTick h due, ageTick_idle idle]
    rfl
  · rw [exec_ageTick h due, ageTick_running running, raiseCause, causeWord_sweepOverrun]
    rfl
  · exact directCommand_finished h (setAgingWork_high s high)
  · exact directCommand_finished h (setAgingWork_stored s low)
  · exact directCommand_finished h (sweepNowWork_running b running)
  · exact directCommand_finished h (sweepNowWork_idle b idle)

end Sys2Proof.Machine

namespace Sys2Proof.Machine

-- One proof at a time: the whole text then compiles in few threads.
set_option Elab.async false

/-! ### A change made at every lane -/

/-- Changes of places, each named once, by a step that changes the place it names alone: a place reads changed
when it is among them. -/
theorem read_foldl {σ ι β : Type} [DecidableEq ι]
    {read : σ → ι → β} {step : σ → ι → σ} {g : β → β}
    (one : ∀ s i k, read (step s i) k = if k = i then g (read s i) else read s k) (k : ι) {is : List ι}
    (nodup : is.Nodup) (s : σ) :
    read (is.foldl step s) k = if k ∈ is then g (read s k) else read s k := by
  induction is generalizing s with
  | nil => rfl
  | cons i rest ih =>
    obtain ⟨new, nodup⟩ := List.nodup_cons.1 nodup
    rw [List.foldl_cons, ih nodup, one]
    by_cases hk : k = i
    · subst hk
      simp [new]
    · simp [hk]

/-- Changes of lanes leave everything but the lanes. -/
theorem foldl_onLane_frame (f : Lane → Lane) (ls : List LaneNo) (s : State) :
    { ls.foldl (fun t l => onLane l f t) s with lanes := s.lanes } = s := by
  induction ls generalizing s with
  | nil => rfl
  | cons l rest ih => exact congrArg (fun u : State => { u with lanes := s.lanes }) (ih (onLane l f s))

/-- Every lane reads changed. -/
theorem laneAt_onEveryLane (f : Lane → Lane) (s : State) (k : LaneNo) :
    laneAt (onEveryLane f s) k = f (laneAt s k) :=
  (read_foldl (fun t l k => laneAt_onLane l k f t) k (List.nodup_finRange 8) s).trans
    (if_pos (List.mem_finRange k))

/-- A change of every lane leaves everything but the lanes. -/
theorem onEveryLane_frame (f : Lane → Lane) (s : State) : { onEveryLane f s with lanes := s.lanes } = s :=
  foldl_onLane_frame f _ s

/-! ### A millisecond tick at a lane -/

/-- A settle timer that runs and whose end has come runs out, and any other tag stands (R128). -/
theorem testTimer_eq (now : Time) (t : Tag) :
    testTimer now t = match t with
      | .settling record (.running deadline) =>
        if now = deadline then .settling record .ranOut else .settling record (.running deadline)
      | other => other := by
  cases t with
  | settling record timer => cases timer <;> rfl
  | _ => rfl

/-- Tests of tags' timers leave everything of the lane but its tags. -/
theorem foldl_testTimer_frame (now : Time) (ts : List TagNo) (x : Lane) :
    { ts.foldl (fun y t => setTag t (testTimer now (tagOf y t)) y) x with tags := x.tags } = x := by
  induction ts generalizing x with
  | nil => rfl
  | cons t rest ih => exact congrArg (fun y : Lane => { y with tags := x.tags }) (ih _)

/-- A millisecond tick tests every tag of a lane (R128, R180). -/
theorem tagOf_testTimers (now : Time) (x : Lane) (k : TagNo) :
    tagOf (testTimers now x) k = testTimer now (tagOf x k) :=
  (read_foldl (g := testTimer now) (fun y t k => tagOf_setTag t k _ y) k (List.nodup_finRange 16) x).trans
    (if_pos (List.mem_finRange k))

/-- A millisecond tick leaves everything of a lane but its tags. -/
theorem testTimers_frame (now : Time) (x : Lane) : { testTimers now x with tags := x.tags } = x :=
  foldl_testTimer_frame now _ x

/-! ### The ticks -/

/-- A microsecond tick that is due is taken (R180). -/
theorem exec_microsecondTick {s : State} (h : awake s) (due : s.subMs < 1000) :
    exec .microsecondTick s = .next (microsecondTick s) :=
  (act_awake _ h).trans (congrArg _ (if_pos due))

/-- A millisecond tick that is due is taken (R180). -/
theorem exec_millisecondTick {s : State} (h : awake s) (due : s.subMs = 1000) :
    exec .millisecondTick s = .next (millisecondTick s) :=
  (act_awake _ h).trans (congrArg _ (if_pos due))

/-- A pause counts down by one microsecond when it is PAUSING (R96). -/
theorem countDownPause_eq (x : Lane) :
    countDownPause x = { x with
      pause := match x.pause with
        | .idle => .idle
        | .pausing remaining q => .pausing (remaining - 1) q } := by
  obtain ⟨_, _, _, _, _, _, _, _, pause, _, _, _⟩ := x
  cases pause with
  | idle => rfl
  | pausing => rfl

/-- Settles O31: each tick writes the Timebase's own counts and makes one change at every lane. -/
theorem ticksOfTheTimebase : Obligations.TicksOfTheTimebase := by
  refine ⟨fun s h due => ⟨_, exec_microsecondTick h due, ?_, fun l => ?_⟩,
    fun s h due => ⟨_, exec_millisecondTick h due, ?_, fun l => ⟨?_, fun k => ?_⟩⟩⟩
  · exact onEveryLane_frame _ _
  · exact (laneAt_onEveryLane _ _ l).trans (countDownPause_eq _)
  · exact onEveryLane_frame _ _
  · rw [millisecondTick, laneAt_onEveryLane]
    exact testTimers_frame _ _
  · rw [millisecondTick, laneAt_onEveryLane, tagOf_testTimers]
    exact testTimer_eq _ _

end Sys2Proof.Machine

namespace Sys2Proof.Machine

-- One proof at a time: the whole text then compiles in few threads.
set_option Elab.async false

/-! ### The two parts of a settle operation -/

/-- A reading of which pairs are current looks at the entries alone (R5). -/
theorem current_congr {s t : State} (entries : ∀ k, entryAt t k = entryAt s k) (p : Pair) :
    current t p = current s p := by
  rw [current, current, entries]

/-- A pair whose ref is occupied under its generation is current (R5). -/
theorem current_of_entry {s : State} {p : Pair} {o : Occupant}
    (old : entryAt s p.ref = ⟨p.generation, some o⟩) :
    current s p = true := by
  rw [current, old]
  exact beq_self_eq_true _

/-- A part whose pair is current does its work (R135). -/
theorem settlePart_current {p : Pair} {s : State} (work : Nat → State → State) (now : current s p = true) :
    settlePart (some p) work s = (work p.ref s, false) :=
  if_pos now

/-- A part whose pair is absent or stale changes nothing (R136). -/
theorem settlePart_absent {p : Option Pair} {s : State} (work : Nat → State → State)
    (absent : ∀ q, p = some q → current s q = false) : (settlePart p work s).1 = s := by
  cases p with
  | none => rfl
  | some q => exact congrArg Prod.fst (if_neg (by rw [absent q rfl]; decide))

/-- A part loses its charge when its pair is recorded and stale (R136). -/
theorem settlePart_lost {p : Option Pair} {s : State} (work : Nat → State → State) :
    (settlePart p work s).2 = true ↔ ∃ q, p = some q ∧ current s q = false := by
  cases p with
  | none => exact ⟨nofun, nofun⟩
  | some q => cases now : current s q <;> simp [settlePart, now]

/-- The part after the source part of a settle operation. -/
def sourceDone (i : SettleInput) (s : State) : State := (settlePart i.record.source (settleSource i) s).1

/-- The part after both parts of a settle operation, a lost charge not yet counted. -/
def partsDone (i : SettleInput) (s : State) : State :=
  (settlePart i.record.destination (settleDestination i) (sourceDone i s)).1

/-- A recorded pair is stale as the settle operation reaches it (R136). -/
def ChargeLost (i : SettleInput) (s : State) : Prop :=
  (∃ p, i.record.source = some p ∧ current s p = false) ∨
    ∃ p, i.record.destination = some p ∧ current (sourceDone i s) p = false

/-- A settle operation with a stale pair counts one lost charge after its parts (R136). -/
theorem settleWork_lost {i : SettleInput} {s : State} (lost : ChargeLost i s) :
    settleWork i s =
      onLaneStats i.lane (fun st => { st with lostCharges := raise32 st.lostCharges }) (partsDone i s) := by
  unfold ChargeLost at lost
  rw [← settlePart_lost (settleSource i), ← settlePart_lost (settleDestination i), ← Bool.or_eq_true] at lost
  exact if_pos lost

/-- A settle operation without a stale pair ends with its parts (R136). -/
theorem settleWork_kept {i : SettleInput} {s : State} (kept : ¬ChargeLost i s) :
    settleWork i s = partsDone i s := by
  unfold ChargeLost at kept
  rw [← settlePart_lost (settleSource i), ← settlePart_lost (settleDestination i), ← Bool.or_eq_true] at kept
  exact if_neg kept

/-- Beyond its parts a settle operation writes lanes alone. -/
theorem settleWork_parts (i : SettleInput) (s : State) :
    ∃ lanes, settleWork i s = { partsDone i s with lanes := lanes } := by
  by_cases lost : ChargeLost i s
  · exact ⟨_, settleWork_lost lost⟩
  · exact ⟨_, settleWork_kept lost⟩

/-- A settle operation in progress makes its effects (log 3). -/
theorem exec_performSettle {i : SettleInput} {s : State} (h : Settling i s) :
    exec (.settleOperation .perform) s =
      .next { settleWork i s with engine := .settled i.lane i.tag s.occupancy } :=
  (act_awake performSettle h.awake).trans (congrArg _ (performSettle_eq h.engine))

/-! ### The destination part -/

/-- The destination part leaves everything but the counter sets (R136). -/
theorem partsDone_frame (i : SettleInput) (s : State) :
    { partsDone i s with counterSets := (sourceDone i s).counterSets } = sourceDone i s := by
  unfold partsDone settlePart settleDestination
  split
  · rfl
  · split
    · split
      · exact chargeEntry_frame _ _ _
      · rfl
    · rfl

theorem entryAt_partsDone (i : SettleInput) (s : State) (k : Nat) :
    entryAt (partsDone i s) k = entryAt (sourceDone i s) k :=
  (congrArg (fun u : State => entryAt u k) (partsDone_frame i s) :)

/-- A charge of a lifetime reads and writes the counter sets alone (R108). -/
theorem chargedTo_counterSets {s t : State} (set : Option Nat) (owner : Pair) (f : Counts → Counts)
    (same : t.counterSets = s.counterSets) :
    (chargedTo set owner f t).counterSets = (chargedTo set owner f s).counterSets := by
  cases set with
  | none => exact same
  | some n =>
    have read : counterSetAt t n = counterSetAt s n := by rw [counterSetAt, same, counterSetAt]
    simp only [chargedTo, read]
    split
    · simp only [same]
    · exact same

/-- What a destination part reads of the entries is the same in both states: which lifetimes go on, and the sets
they name. -/
structure SameLifetimes (s t : State) : Prop where
  pairs : ∀ k o, (entryAt s k).occupant = some o →
    ∃ o', entryAt t k = ⟨(entryAt s k).generation, some o'⟩ ∧ o'.counterSet = o.counterSet
  free : ∀ k, (entryAt s k).occupant = none → (entryAt t k).occupant = none

/-- Where lifetimes go on, the same pairs are current (R5). -/
theorem SameLifetimes.current {s t : State} (h : SameLifetimes s t) (p : Pair) :
    current t p = current s p := by
  unfold Machine.current
  cases old : (entryAt s p.ref).occupant with
  | none => rw [h.free _ old]; rfl
  | some o =>
    obtain ⟨o', entry, -⟩ := h.pairs _ o old
    rw [entry]
    rfl

theorem SameLifetimes.refl (s : State) : SameLifetimes s s :=
  ⟨fun _ o old => ⟨o, congrArg (Entry.mk _) old, rfl⟩, fun _ old => old⟩

/-- The destination part is R136's, when the source part let the lifetimes go on and left the counter sets of
`mid`. -/
theorem destinationCharged {i : SettleInput} {s mid : State} (same : SameLifetimes s (sourceDone i s))
    (sets : (sourceDone i s).counterSets = mid.counterSets) :
    DestinationCharged i s mid (partsDone i s) where
  charged d o recorded old good := by
    obtain ⟨o', entry, set⟩ := same.pairs d.ref o (congrArg Entry.occupant old)
    rw [old] at entry
    have part : partsDone i s = chargeEntry d.ref .destination (sourceDone i s) := by
      rw [partsDone, recorded, settlePart_current _ (current_of_entry entry), settleDestination, if_pos good]
    rw [part, chargeEntry_eq _ entry, set]
    exact chargedTo_counterSets _ _ _ sets
  bad bad := (congrArg State.counterSets (settlePart_destination_bad bad _ _)).trans sets
  stale absent := by
    refine (congrArg State.counterSets (settlePart_absent _ fun q recorded => ?_)).trans sets
    rw [same.current]
    exact absent q recorded

/-! ### The source part -/

/-- The meter of an occupant after a settle's debit: brought up, and the byte count taken off down to the floor
under an enabled profile (R89, R93). -/
def meterDebited (s : State) (o : Occupant) (bytes : Nat) : Option Meter :=
  (meterNow s o).map fun m =>
    if (profileAt s m.profile).enabled then { m with credit := max (-16777215) (m.credit - bytes) } else m

theorem meterDebited_congr {s t : State} (o : Occupant) (bytes : Nat) (profiles : t.profiles = s.profiles)
    (ms : t.ms = s.ms) : meterDebited t o bytes = meterDebited s o bytes := by
  unfold meterDebited
  rw [meterNow_congr profiles ms]
  unfold profileAt
  rw [profiles]

/-- An entry that stands. -/
theorem EntryBecomes.same {s : State} {ref : Nat} {o : Occupant} (old : (entryAt s ref).occupant = some o) :
    EntryBecomes ref o s s :=
  ⟨congrArg (Entry.mk _) old, fun _ _ => rfl⟩

/-- A lifetime that goes on under its set lets every lifetime go on. -/
theorem EntryBecomes.sameLifetimes {s t : State} {ref : Nat} {o o' : Occupant} (h : EntryBecomes ref o' s t)
    (old : (entryAt s ref).occupant = some o) (set : o'.counterSet = o.counterSet) : SameLifetimes s t where
  pairs k x hx := by
    by_cases hk : k = ref
    · subst hk
      obtain rfl := Option.some.inj (old.symm.trans hx)
      exact ⟨o', h.entry, set⟩
    · rw [h.others k hk]
      exact (SameLifetimes.refl s).pairs k x hx
  free k hk := by
    rw [h.others k fun e => by rw [e, old] at hk; cases hk]
    exact hk

/-- A debit writes the meter as it is now, less the byte count (R93). -/
theorem EntryBecomes.debitEntry {s : State} {ref : Nat} {o : Occupant} (bytes : Nat)
    (old : (entryAt s ref).occupant = some o) :
    EntryBecomes ref { o with meter := meterDebited s o bytes } s (debitEntry ref bytes s) := by
  have stands (same : meterDebited s o bytes = o.meter) :
      EntryBecomes ref { o with meter := meterDebited s o bytes } s s := by
    rw [same]
    exact .same old
  unfold Machine.debitEntry
  cases meter : o.meter with
  | none =>
    rw [activeMeter_none old meter]
    exact stands (by rw [meterDebited, meterNow_none s meter, meter]; rfl)
  | some m =>
    rw [activeMeter_eq old meter]
    cases on : (profileAt s m.profile).enabled with
    | false =>
      refine stands ?_
      rw [meterDebited, meterNow_disabled meter on, meter]
      exact congrArg some (if_neg (by rw [on]; decide))
    | true =>
      have now : meterDebited s o bytes = some (debited bytes (broughtUp (profileAt s m.profile) s.ms m)) := by
        rw [meterDebited, meterNow_enabled meter on]
        exact congrArg some (if_pos on)
      rw [now]
      exact .setOccupant _ _ _

/-- The life of a source after a settle that does not reject it: GOOD confirms a NEW entry (R67). -/
def confirmedLife (good : Bool) (l : Life) : Life :=
  match l with
  | .new a g => if good then .live a else .new a g
  | l => l

/-- The settle does not reject its source: it is GOOD, the source is not NEW, or the tag is not its origin tag
(R68). -/
def Unrejected (i : SettleInput) (l : Life) : Prop :=
  i.good = true ∨ (∀ a g, l ≠ .new a g) ∨ i.record.created = false ∨
    ∃ a g, l = .new a g ∧ g ≠ ⟨i.lane, i.tag⟩

/-- A tag that does not reject a NEW source with BAD is not its origin tag (R68). -/
theorem Unrejected.foreign {i : SettleInput} {a : Aging} {g : Origin} (kept : Unrejected i (.new a g))
    (bad : i.good = false) : isOriginTag i g = false := by
  obtain good | old | created | ⟨a', g', life, other⟩ := kept
  · rw [bad] at good
    cases good
  · exact absurd rfl (old a g)
  · simp [isOriginTag, created]
  · obtain ⟨-, rfl⟩ := Life.new.inj life
    refine Bool.eq_false_iff.2 fun own => other ?_
    simp only [isOriginTag, Bool.and_eq_true, beq_iff_eq] at own
    obtain ⟨⟨-, lane⟩, tag⟩ := own
    rw [← lane, ← tag]

/-- Without rejection the source's entry stands or has its life confirmed (R67). -/
theorem confirmOrReject_unrejected {i : SettleInput} {s : State} {ref : Nat} {o : Occupant}
    (old : (entryAt s ref).occupant = some o) (kept : Unrejected i o.life) :
    confirmOrReject i ref s = s ∧ confirmedLife i.good o.life = o.life ∨
      confirmOrReject i ref s = setOccupant ref { o with life := confirmedLife i.good o.life } s := by
  unfold confirmOrReject
  rw [old]
  dsimp only
  cases life : o.life with
  | new a g =>
    dsimp only
    cases good : i.good with
    | true => exact .inr rfl
    | false =>
      rw [life] at kept
      rw [if_neg (by decide), kept.foreign good]
      exact .inl ⟨rfl, rfl⟩
  | _ => exact .inl ⟨rfl, rfl⟩

/-- Without rejection the source's entry is confirmed or stands (R67). -/
theorem EntryBecomes.confirmOrReject {i : SettleInput} {s : State} {ref : Nat} {o : Occupant}
    (old : (entryAt s ref).occupant = some o) (kept : Unrejected i o.life) :
    EntryBecomes ref { o with life := confirmedLife i.good o.life } s (confirmOrReject i ref s) := by
  obtain ⟨stands, life⟩ | confirmed := confirmOrReject_unrejected old kept
  · rw [stands, life]
    exact .same old
  · rw [confirmed]
    exact .setOccupant _ _ _

/-- Without rejection the last act of the source part writes an entry alone. -/
theorem confirmOrReject_frame {i : SettleInput} {s : State} {ref : Nat} {o : Occupant}
    (old : (entryAt s ref).occupant = some o) (kept : Unrejected i o.life) :
    { confirmOrReject i ref s with entries := s.entries } = s := by
  obtain ⟨stands, -⟩ | confirmed := confirmOrReject_unrejected old kept
  · rw [stands]
  · rw [confirmed]
    rfl

/-- The source part on a current source. -/
theorem sourceDone_current {i : SettleInput} {p : Pair} {o : Occupant} {s : State} (h : SettlingSource i p o s) :
    sourceDone i s = settleSource i p.ref s := by
  rw [sourceDone, h.recorded, settlePart_current _ (current_of_entry h.occupant)]

/-- The source part without a current source changes nothing (R136). -/
theorem sourceDone_absent {i : SettleInput} {s : State}
    (absent : ∀ p, i.record.source = some p → current s p = false) : sourceDone i s = s :=
  settlePart_absent _ absent

/-- A source part that does not reject its source writes its life, its meter and the counts of its set (R135). -/
theorem sourceDone_unrejected {i : SettleInput} {p : Pair} {o : Occupant} {s : State}
    (h : SettlingSource i p o s) (kept : Unrejected i o.life) :
    EntryBecomes p.ref
        { o with life := confirmedLife i.good o.life, meter := meterDebited s o i.byteCount.toNat } s
        (sourceDone i s) ∧
      { sourceDone i s with entries := s.entries } = chargedTo o.counterSet p (charged (sourceCharge i)) s := by
  let mid := chargedTo o.counterSet p (charged (sourceCharge i)) s
  have charge := chargedTo_frame o.counterSet p (charged (sourceCharge i)) s
  have entries (k : Nat) : entryAt mid k = entryAt s k := (congrArg (fun u : State => entryAt u k) charge :)
  have old : (entryAt mid p.ref).occupant = some o := by rw [entries, h.occupant]
  have debit : EntryBecomes p.ref { o with meter := meterDebited s o i.byteCount.toNat } mid
      (debitEntry p.ref i.byteCount.toNat mid) := by
    rw [← meterDebited_congr o _ (congrArg State.profiles charge :) (congrArg State.ms charge :)]
    exact .debitEntry _ old
  have done : sourceDone i s = confirmOrReject i p.ref (debitEntry p.ref i.byteCount.toNat mid) := by
    rw [sourceDone_current h, settleSource, chargeEntry_eq _ h.occupant]
  rw [done]
  refine ⟨(EntryBecomes.congr (.same (congrArg Entry.occupant h.occupant)) entries).trans
    (debit.trans (.confirmOrReject debit.occupant kept)), ?_⟩
  have confirmed := confirmOrReject_frame debit.occupant kept
  have stands : mid.entries = s.entries := (congrArg State.entries charge :)
  rw [← stands]
  exact (congrArg (fun u : State => { u with entries := mid.entries }) confirmed).trans
    (debitEntry_frame p.ref i.byteCount.toNat mid)

/-- Settles O27: the source part writes the entry and charges its set, and the destination part charges another
set at most. -/
theorem sourceSettled : Obligations.SourceSettled := by
  intro i p o s h kept sourceCharged
  obtain ⟨entry, frame⟩ := sourceDone_unrejected h kept
  obtain ⟨lanes, work⟩ := settleWork_parts i s
  have charge : charged (sourceCharge i) = sourceCharged := by
    funext k
    simp only [sourceCharge, sourceCharged]
    split <;> rfl
  rw [charge] at frame
  have same := entry.sameLifetimes (congrArg Entry.occupant h.occupant) rfl
  have entries := entry.congr (entryAt_partsDone i s)
  refine ⟨_, exec_performSettle h.toSettling, ?_⟩
  rw [work]
  refine ⟨?_, entries.others, { destinationCharged same (congrArg State.counterSets frame :) with }, ?_⟩
  · have entry := entries.entry
    rw [h.occupant] at entry
    exact entry
  · exact (congrArg (fun u : State => { u with
        entries := s.entries, counterSets := s.counterSets, lanes := s.lanes
        engine := .settled i.lane i.tag s.occupancy }) (partsDone_frame i s)).trans
      ((congrArg (fun u : State => { u with
          counterSets := s.counterSets, lanes := s.lanes
          engine := .settled i.lane i.tag s.occupancy }) frame).trans
        (congrArg (fun u : State => { u with
          lanes := s.lanes, engine := .settled i.lane i.tag s.occupancy })
          (chargedTo_frame o.counterSet p sourceCharged s)))

/-! ### Lost charges -/

/-- A retirement leaves the lanes (R13). -/
theorem retire_lanes (ref : Nat) (c : RetireCause) (s : State) : (retire ref c s).lanes = s.lanes := by
  cases old : (entryAt s ref).occupant with
  | none => rw [retire_free c old]
  | some o => exact (congrArg State.lanes (retire_frame c old) :)

theorem confirmOrReject_lanes (i : SettleInput) (ref : Nat) (s : State) :
    (confirmOrReject i ref s).lanes = s.lanes := by
  unfold confirmOrReject
  split
  · rfl
  · split
    · split
      · rfl
      · split
        · exact retire_lanes _ _ _
        · rfl
    · rfl

/-- The source part leaves the lanes (R135). -/
theorem sourceDone_lanes (i : SettleInput) (s : State) : (sourceDone i s).lanes = s.lanes := by
  have work (ref : Nat) : (settleSource i ref s).lanes = s.lanes :=
    (confirmOrReject_lanes _ _ _).trans ((congrArg State.lanes (debitEntry_frame _ _ _) :).trans
      (congrArg State.lanes (chargeEntry_frame _ _ _) :))
  unfold sourceDone settlePart
  split
  · rfl
  · split
    · exact work _
    · rfl

/-- Both parts leave the lanes (R135, R136). -/
theorem laneAt_partsDone (i : SettleInput) (s : State) (l : LaneNo) : laneAt (partsDone i s) l = laneAt s l := by
  have lanes : (partsDone i s).lanes = s.lanes :=
    (congrArg State.lanes (partsDone_frame i s) :).trans (sourceDone_lanes i s)
  rw [laneAt, lanes, laneAt]

/-- A lost charge is counted at the settle's own lane (R136). -/
theorem laneAt_settleWork_lost {i : SettleInput} {s : State} (lost : ChargeLost i s) (l : LaneNo) :
    laneAt (settleWork i s) l =
      if l = i.lane then
        { laneAt s i.lane with
          stats := { (laneAt s i.lane).stats with
            lostCharges := upOne (laneAt s i.lane).stats.lostCharges } }
      else laneAt s l := by
  rw [settleWork_lost lost, onLaneStats, laneAt_onLane, laneAt_partsDone, laneAt_partsDone]
  rfl

/-- Without a lost charge every lane stands (R136). -/
theorem laneAt_settleWork_kept {i : SettleInput} {s : State} (kept : ¬ChargeLost i s) (l : LaneNo) :
    laneAt (settleWork i s) l = laneAt s l := by
  rw [settleWork_kept kept, laneAt_partsDone]

/-- Settles O29: without a current source the source part changes nothing, and the lane changes exactly when a
charge is lost. -/
theorem destinationAndLostCharges : Obligations.DestinationAndLostCharges := by
  refine ⟨fun i s h absent => ?_, fun i s h => ⟨_, exec_performSettle h, ?_⟩⟩
  · have source := sourceDone_absent absent
    obtain ⟨lanes, work⟩ := settleWork_parts i s
    have charge := destinationCharged (i := i) (s := s) (mid := s) (by rw [source]; exact .refl s)
      (by rw [source])
    have frame := partsDone_frame i s
    rw [source] at frame
    refine ⟨_, exec_performSettle h, ?_⟩
    rw [work]
    exact ⟨{ charge with }, congrArg (fun u : State => { u with
      lanes := s.lanes, engine := .settled i.lane i.tag s.occupancy }) frame⟩
  · obtain ⟨lanes, work⟩ := settleWork_parts i s
    have stale : ChargeLost i s ↔ (∃ p, i.record.source = some p ∧ current s p = false) ∨
        ∃ p, i.record.destination = some p ∧ current (settleWork i s) p = false := by
      have reached : current (settleWork i s) = current (sourceDone i s) := by
        rw [work]
        exact funext (current_congr (entryAt_partsDone i s))
      rw [reached]
      rfl
    by_cases lost : ChargeLost i s
    · refine ⟨fun l other => ?_, fun _ => ?_, fun source destination => ?_⟩
      · exact (laneAt_settleWork_lost lost l).trans (if_neg other)
      · exact (laneAt_settleWork_lost lost i.lane).trans (if_pos rfl)
      · obtain ⟨p, recorded, gone⟩ | ⟨p, recorded, gone⟩ := stale.1 lost
        · exact nomatch (source p recorded).symm.trans gone
        · exact nomatch (destination p recorded).symm.trans gone
    · have keeps := laneAt_settleWork_kept lost
      exact ⟨fun l _ => keeps l, fun gone => absurd (stale.2 gone) lost, fun _ _ => keeps i.lane⟩

end Sys2Proof.Machine

namespace Sys2Proof.Machine

-- One proof at a time: the whole text then compiles in few threads.
set_option Elab.async false

/-! ### Items and the tags they need -/

/-- A tag stands in the state that an item for it needs (R122). -/
def Suits : Item → Tag → Prop
  | .lookup _ _ _ _, v => v = .queued
  | .settle _ _ _, v => ∃ r, v = .closing r

theorem itemMatches_iff (x : Lane) (i : Item) : itemMatches x i ↔ Suits i (tagOf x (itemTag i)) := by
  cases i <;> rfl

/-- A tag that has an item is open (R127). -/
theorem Suits.isOpen_eq {i : Item} {v : Tag} (h : Suits i v) : isOpen v = true := by
  cases i with
  | lookup => exact h ▸ rfl
  | settle =>
    obtain ⟨r, rfl⟩ := h
    rfl

/-- A read of a tag in a lane whose tags were written at one of them. -/
theorem tagOf_of_tags {x y : Lane} {t : TagNo} {v : Tag} (tags : y.tags = put .reset x.tags t.val v)
    (k : TagNo) : tagOf y k = if k = t then v else tagOf x k := by
  rw [tagOf, tags]
  exact tagOf_setTag t k v x

/-- The item in hand is live unless it is cancelled (R133). -/
theorem liveItems_taken {x : Lane} {i : Item} (h : x.inHand = some ⟨i, false⟩) :
    liveItems x = x.queue ++ [i] := by
  unfold liveItems
  rw [h]

/-- Without an item in hand, or with a cancelled one, the live items are the queue (R133). -/
theorem liveItems_discarded {x : Lane} (h : resultDiscarded x = true) : liveItems x = x.queue := by
  unfold liveItems
  unfold resultDiscarded at h
  split at h
  · next e => rw [e, List.append_nil]
  · next hand e =>
    obtain ⟨item, cancelled⟩ := hand
    obtain rfl : cancelled = true := h
    rw [e, List.append_nil]

/-- A result that is not discarded has its item in hand (R134). -/
theorem taken_of_not_discarded {x : Lane} (h : ¬resultDiscarded x = true) :
    ∃ i, x.inHand = some ⟨i, false⟩ := by
  unfold resultDiscarded at h
  split at h
  · exact absurd rfl h
  · next hand e =>
    obtain ⟨item, cancelled⟩ := hand
    obtain rfl : cancelled = false := Bool.eq_false_iff.2 h
    exact ⟨item, e⟩

/-! ### Changes that keep the laws of a lane -/

/-- What a lane has in hand: the kind of the item and its tag (R133). -/
def handOf (x : Lane) : Option (ItemKind × TagNo) :=
  x.inHand.map fun h => (itemKind h.item, itemTag h.item)

/-- A change of a lane keeps its laws and what it has in hand. -/
structure LaneKept (x y : Lane) : Prop where
  lawful : LaneLawful x → LaneLawful y
  hand : handOf y = handOf x

theorem LaneKept.refl (x : Lane) : LaneKept x x := ⟨id, rfl⟩

theorem LaneKept.trans {x y z : Lane} (h : LaneKept x y) (g : LaneKept y z) : LaneKept x z :=
  ⟨g.lawful ∘ h.lawful, g.hand.trans h.hand⟩

/-- Tags written that no item needs, and a pause record that is written in READY alone. -/
theorem LaneKept.retagged {x y : Lane} (suits : ∀ k i, Suits i (tagOf x k) → Suits i (tagOf y k))
    (free : ∀ k, isOpen (tagOf x k) = false → isOpen (tagOf y k) = false)
    (pausing : x.state ≠ .ready → x.pause = .idle → y.pause = .idle := by exact fun _ h => h)
    (state : y.state = x.state := by rfl) (queue : y.queue = x.queue := by rfl)
    (inHand : y.inHand = x.inHand := by rfl) : LaneKept x y := by
  have live : liveItems y = liveItems x := by rw [liveItems, queue, inHand, liveItems]
  refine ⟨fun h => ⟨fun i mem => ?_, ?_, fun down => ?_, fun other => ?_⟩, by rw [handOf, inHand, handOf]⟩
  · rw [live] at mem
    exact (itemMatches_iff y i).2 (suits _ _ ((itemMatches_iff x i).1 (h.items i mem)))
  · rw [live]
    exact h.oneEach
  · rw [state] at down
    obtain ⟨shut, empty⟩ := h.closed down
    exact ⟨fun t => free t (shut t), queue.trans empty⟩
  · rw [state] at other
    exact pausing other (h.pausing other)

/-- Changes outside what the laws of a lane speak of, and a pause record that is written in READY alone. -/
theorem LaneKept.apart {x y : Lane} (tags : y.tags = x.tags := by rfl)
    (pausing : x.state ≠ .ready → x.pause = .idle → y.pause = .idle := by exact fun _ h => h)
    (state : y.state = x.state := by rfl) (queue : y.queue = x.queue := by rfl)
    (inHand : y.inHand = x.inHand := by rfl) : LaneKept x y := by
  have same (k : TagNo) : tagOf y k = tagOf x k := by rw [tagOf, tags, tagOf]
  exact .retagged (fun k i h => (same k).symm ▸ h) (fun k h => (same k).symm ▸ h) pausing state queue inHand

/-- A close-out leaves no item and no open tag, whatever the lane's state becomes (R122). -/
theorem LaneKept.closedOut {x y : Lane} (tags : y.tags = [] := by rfl) (queue : y.queue = [] := by rfl)
    (inHand : y.inHand = x.inHand.map (fun h => { h with cancelled := true }) := by rfl)
    (pause : y.pause = .idle := by rfl) : LaneKept x y := by
  have discarded : resultDiscarded y = true := by
    unfold resultDiscarded
    rw [inHand]
    cases x.inHand <;> rfl
  have live : liveItems y = [] := (liveItems_discarded discarded).trans queue
  refine ⟨fun _ => ⟨fun i mem => ?_, ?_, fun _ => ⟨fun t => ?_, queue⟩, fun _ => pause⟩, ?_⟩
  · rw [live] at mem
    cases mem
  · rw [live]
    exact List.nodup_nil
  · rw [tagOf, tags]
    rfl
  · rw [handOf, inHand, handOf, Option.map_map]
    rfl

/-- In READY an item joins the queue on a tag that no item stood for (R129, R130). -/
theorem LaneKept.enqueued {x : Lane} (item : Item) (v : Tag) (ready : x.state = .ready)
    (unused : ∀ i, ¬Suits i (tagOf x (itemTag item))) (suits : Suits item v) :
    LaneKept x (setTag (itemTag item) v { x with queue := x.queue ++ [item] }) := by
  have live : (liveItems (setTag (itemTag item) v { x with queue := x.queue ++ [item] })).Perm
      (item :: liveItems x) := by
    unfold liveItems
    exact (List.append_assoc .. ▸ List.perm_middle)
  have tag (k : TagNo) : tagOf (setTag (itemTag item) v { x with queue := x.queue ++ [item] }) k =
      if k = itemTag item then v else tagOf x k := tagOf_setTag _ _ _ _
  refine ⟨fun h => ⟨fun i mem => ?_, ?_, fun down => ?_, h.pausing⟩, rfl⟩
  · rw [itemMatches_iff, tag]
    rcases List.mem_cons.1 (live.mem_iff.1 mem) with rfl | old
    · rw [if_pos rfl]
      exact suits
    · have needs := (itemMatches_iff x i).1 (h.items i old)
      have other : itemTag i ≠ itemTag item := fun e => unused i (e ▸ needs)
      rw [if_neg other]
      exact needs
  · rw [(live.map itemTag).nodup_iff, List.map_cons, List.nodup_cons]
    refine ⟨fun mem => ?_, h.oneEach⟩
    obtain ⟨i, old, e⟩ := List.mem_map.1 mem
    exact unused i (e ▸ (itemMatches_iff x i).1 (h.items i old))
  · rcases down with down | down <;> exact nomatch ready.symm.trans down

/-- A head item taken in hand stays the item of its tag (R133). -/
theorem LaneLawful.takeInHand {x : Lane} (h : LaneLawful x) (empty : x.inHand = none) :
    LaneLawful (takeInHand x) := by
  unfold Machine.takeInHand
  split
  · exact h
  · next item rest queue =>
    have live : (liveItems { x with queue := rest, inHand := some ⟨item, false⟩ }).Perm (liveItems x) := by
      rw [liveItems_taken rfl, liveItems_discarded (x := x) (by rw [resultDiscarded, empty]), queue]
      exact List.perm_append_singleton _ _
    refine ⟨fun i mem => h.items i (live.mem_iff.1 mem), (live.map itemTag).nodup_iff.2 h.oneEach,
      fun down => ?_, h.pausing⟩
    exact nomatch queue.symm.trans (h.closed down).2

/-- A discarded result leaves a lawful lane with nothing in hand (R134). -/
theorem LaneLawful.discards {x : Lane} (h : LaneLawful x) (discarded : resultDiscarded x = true) :
    LaneLawful { x with inHand := none } := by
  have live : liveItems { x with inHand := none } = liveItems x :=
    (liveItems_discarded rfl).trans (liveItems_discarded discarded).symm
  exact ⟨fun i mem => h.items i (live ▸ mem), live.symm ▸ h.oneEach, h.closed, h.pausing⟩

/-- A result that is acted on ends its item and writes the item's tag (R134, R137). -/
theorem LaneLawful.actsOn {x y : Lane} (h : LaneLawful x) {i : Item} {v : Tag}
    (hand : x.inHand = some ⟨i, false⟩) (tags : y.tags = put .reset x.tags (itemTag i).val v)
    (ended : y.inHand = none)
    (state : y.state = x.state := by rfl) (queue : y.queue = x.queue := by rfl)
    (pause : y.pause = x.pause := by rfl) : LaneLawful y := by
  have live := liveItems_taken hand
  have live' : liveItems y = x.queue :=
    (liveItems_discarded (by rw [resultDiscarded, ended])).trans queue
  have nodup := h.oneEach
  rw [live, List.map_append, List.nodup_append] at nodup
  obtain ⟨queued, -, apart⟩ := nodup
  have needs := (itemMatches_iff x i).1 (h.items i (by simp [live]))
  refine ⟨fun j mem => ?_, live'.symm ▸ queued, fun down => ?_, fun other => ?_⟩
  · rw [live'] at mem
    have other : itemTag j ≠ itemTag i := apart _ (List.mem_map_of_mem mem) _ (by simp)
    rw [itemMatches_iff, tagOf_of_tags tags, if_neg other]
    exact (itemMatches_iff x j).1 (h.items j (by simp [live, mem]))
  · rw [state] at down
    exact nomatch needs.isOpen_eq.symm.trans ((h.closed down).1 (itemTag i))
  · rw [state] at other
    exact pause.trans (h.pausing other)

/-! ### The operations of a lane -/

theorem laneKept_sendFaultOn (r : FaultReason) (x : Lane) : LaneKept x (sendFaultOn r x) := by
  unfold sendFaultOn
  split
  · exact .refl x
  · exact .apart

theorem laneKept_transmitNext (x : Lane) : LaneKept x (transmitNext x) := by
  unfold transmitNext
  split <;> exact .apart

theorem laneKept_restartLane (x : Lane) : LaneKept x (restartLane x) := .closedOut

theorem laneKept_disabled (x : Lane) : LaneKept x (disabled x) := by
  unfold disabled
  split
  · exact .refl x
  · exact .closedOut

/-- A PAUSING record is begun in READY alone (R97). -/
theorem laneKept_pauseDemand (quantum : Word16) (x : Lane) : LaneKept x (pauseDemand quantum x) := by
  unfold pauseDemand
  split
  · exact .apart
  · next takes =>
    have ready : x.state = .ready := not_not.1 (not_or.1 takes).1
    split
    · exact .apart (pausing := fun other => absurd ready other)
    · split
      · exact .apart
      · exact .apart (pausing := fun other => absurd ready other)

theorem laneKept_cancelPause (x : Lane) : LaneKept x (cancelPause x) := by
  unfold cancelPause
  split
  · exact .refl x
  · exact .apart (pausing := fun _ _ => rfl)

theorem laneKept_expirePause (x : Lane) : LaneKept x (expirePause x) := by
  unfold expirePause
  split
  · exact .apart (pausing := fun _ _ => rfl)
  · exact .refl x

theorem laneKept_countDownPause (x : Lane) : LaneKept x (countDownPause x) := by
  unfold countDownPause
  split
  · exact .refl x
  · next pausing => exact .apart (pausing := fun _ idle => nomatch pausing.symm.trans idle)

/-- A SETTLING tag has no item, so that its timer's end leaves the items (R131). -/
theorem laneKept_timeOut (t : TagNo) (x : Lane) : LaneKept x (timeOut t x) := by
  unfold timeOut
  split
  · next record settling =>
    refine .retagged (fun k i suits => ?_) (fun k free => ?_)
    · rw [tagOf_of_tags (x := x) (t := t) (v := .free true) rfl]
      split
      · next e =>
        rw [e, settling] at suits
        cases i with
        | lookup => cases suits
        | settle => exact nomatch suits
      · exact suits
    · rw [tagOf_of_tags (x := x) (t := t) (v := .free true) rfl]
      split
      · rfl
      · exact free
  · exact .refl x

/-- A millisecond tick leaves QUEUED, CLOSING and FREE tags (R128). -/
theorem laneKept_testTimers (now : Time) (x : Lane) : LaneKept x (testTimers now x) := by
  have frame := testTimers_frame now x
  refine .retagged (fun k i suits => ?_) (fun k free => ?_)
    (fun _ idle => (congrArg Lane.pause frame :).trans idle)
    (congrArg Lane.state frame :) (congrArg Lane.queue frame :) (congrArg Lane.inHand frame :)
  · rw [tagOf_testTimers]
    cases i with
    | lookup =>
      rw [suits]
      exact rfl
    | settle =>
      obtain ⟨r, closing⟩ := suits
      rw [closing]
      exact ⟨r, rfl⟩
  · rw [tagOf_testTimers]
    cases tag : tagOf x k with
    | free => rfl
    | _ => rw [tag] at free; cases free

/-- A LOOKUP is taken in READY on a FREE tag (R129). -/
theorem laneKept_takeLookup {t : TagNo} {x : Lane} (domain : Byte) (destination source : Address)
    (ready : x.state = .ready) (free : isOpen (tagOf x t) = false) :
    LaneKept x (takeLookup t domain destination source x) :=
  .enqueued (.lookup t domain destination source) .queued ready
    (fun _ suits => nomatch free.symm.trans suits.isOpen_eq) rfl

/-- A SETTLE is taken in READY on a SETTLING tag (R130). -/
theorem laneKept_takeSettle {x : Lane} (t : TagNo) (good : Bool) (byteCount : Word16)
    (ready : x.state = .ready) : LaneKept x (takeSettle t good byteCount x) := by
  unfold takeSettle
  split
  · next record _ settling =>
    refine .enqueued (.settle t good byteCount) (.closing record) ready (fun i suits => ?_) ⟨record, rfl⟩
    rw [itemTag, settling] at suits
    cases i with
    | lookup => cases suits
    | settle => exact nomatch suits
  all_goals exact .apart

/-! ### The hand-back of a result -/

/-- The lane's part of a verdict ends the item in hand and leaves the lane lawful (R134). -/
theorem LaneLawful.takeVerdict {x : Lane} (h : LaneLawful x) {t : TagNo}
    (hand : ∀ i ∈ x.inHand, itemTag i.item = t) (r : ResolveResult) (now : Time) :
    LaneLawful (takeVerdict t r now x) := by
  unfold Machine.takeVerdict
  split
  · next discarded => exact h.discards discarded
  · next taken =>
    have ⟨i, inHand⟩ := taken_of_not_discarded taken
    obtain rfl : itemTag i = t := hand _ inHand
    unfold actOnVerdict
    cases r.verdict.action with
    | drop => exact h.actsOn (v := .free false) inHand rfl rfl
    | forward | flood =>
      exact h.actsOn (hand := inHand) (tags := rfl) (ended := rfl)
        (v := .settling ⟨r.source, r.created, r.destination, now⟩ (startTimer x.settleTimeout now))

/-- The lane's part of a settle's end leaves the lane lawful (R137). -/
theorem LaneLawful.takeSettled {x : Lane} (h : LaneLawful x) {t : TagNo}
    (hand : ∀ i ∈ x.inHand, itemTag i.item = t) : LaneLawful (takeSettled t x) := by
  unfold Machine.takeSettled
  split
  · next discarded => exact h.discards discarded
  · next taken =>
    have ⟨i, inHand⟩ := taken_of_not_discarded taken
    obtain rfl : itemTag i = t := hand _ inHand
    exact h.actsOn (v := .free false) inHand rfl rfl

theorem takeVerdict_inHand (t : TagNo) (r : ResolveResult) (now : Time) (x : Lane) :
    (Machine.takeVerdict t r now x).inHand = none := by
  unfold takeVerdict
  split <;> rfl

theorem takeSettled_inHand (t : TagNo) (x : Lane) : (Machine.takeSettled t x).inHand = none := by
  unfold takeSettled
  split <;> rfl

end Sys2Proof.Machine


namespace Sys2Proof.Machine

-- One proof at a time: the whole text then compiles in few threads.
set_option Elab.async false

/-! ### Changes of the part that keep the lanes' laws -/

/-- Every lane keeps its laws and what it has in hand, and the engine still holds the item it held. -/
structure LanesKept (s t : State) : Prop where
  lane : ∀ l, LaneKept (laneAt s l) (laneAt t l)
  engine : inHandOf t.engine = inHandOf s.engine

theorem LanesKept.refl (s : State) : LanesKept s s := ⟨fun _ => .refl _, rfl⟩

theorem LanesKept.trans {s t u : State} (h : LanesKept s t) (g : LanesKept t u) : LanesKept s u :=
  ⟨fun l => (h.lane l).trans (g.lane l), g.engine.trans h.engine⟩

theorem LanesKept.lawful {s t : State} (h : LanesKept s t) (lawful : LanesLawful s) : LanesLawful t :=
  ⟨fun l => (h.lane l).lawful (lawful.lane l),
    ⟨fun l => (h.lane l).hand.trans ((lawful.hands.item l).trans (congrFun h.engine l).symm)⟩⟩

/-- A change elsewhere leaves the lanes and the engine. -/
theorem LanesKept.elsewhere {s t : State} (lanes : t.lanes = s.lanes := by rfl)
    (engine : t.engine = s.engine := by rfl) : LanesKept s t :=
  ⟨fun l => by rw [laneAt, laneAt, lanes]; exact .refl _, by rw [engine]⟩

theorem lanesKept_raiseCause (c : Cause) (s : State) : LanesKept s (raiseCause c s) := .elsewhere

theorem lanesKept_onTableStats (f : TableStats → TableStats) (s : State) : LanesKept s (onTableStats f s) :=
  .elsewhere

/-- The engine goes from one operation to another, neither a lane's (R133). -/
theorem lanesKept_engine {s : State} {e : Engine} (before : inHandOf s.engine = fun _ => none)
    (after : inHandOf e = fun _ => none) : LanesKept s { s with engine := e } :=
  ⟨fun _ => .refl _, after.trans before.symm⟩

/-- The engine is taken from idle by an operation that is no lane's (R23). -/
theorem lanesKept_grantTo {s : State} {j : Fin 10} (k : Fin 10) {e : Engine}
    (grant : nextGrant s = some j) (other : inHandOf e = fun _ => none) : LanesKept s (grantTo k e s) :=
  ⟨fun _ => .refl _, other.trans (by rw [nextGrant_idle grant]; rfl)⟩

theorem lanesKept_setLane {s : State} {l : LaneNo} {x : Lane} (h : LaneKept (laneAt s l) x) :
    LanesKept s (setLane l x s) := by
  refine ⟨fun k => ?_, rfl⟩
  rw [laneAt_setLane]
  split
  · next e => exact e ▸ h
  · exact .refl _

theorem lanesKept_onLane {s : State} (l : LaneNo) {f : Lane → Lane}
    (h : LaneKept (laneAt s l) (f (laneAt s l))) : LanesKept s (onLane l f s) := lanesKept_setLane h

theorem lanesKept_onLaneStats (l : LaneNo) (f : LaneStats → LaneStats) (s : State) :
    LanesKept s (onLaneStats l f s) := lanesKept_onLane l .apart

theorem lanesKept_onEveryLane {s t : State} {f : Lane → Lane} (h : ∀ x, LaneKept x (f x))
    (lanes : t.lanes = s.lanes) (engine : t.engine = s.engine) : LanesKept s (onEveryLane f t) where
  lane l := by
    have same : laneAt t l = laneAt s l := by rw [laneAt, lanes, laneAt]
    rw [laneAt_onEveryLane, same]
    exact h _
  engine := by rw [(congrArg State.engine (onEveryLane_frame f t) :), engine]

/-! ### The table, the pool and the Command Unit -/

theorem lanesKept_bringUpEntry (ref : Nat) (s : State) : LanesKept s (bringUpEntry ref s) := by
  have frame := bringUpEntry_frame ref s
  exact .elsewhere (congrArg State.lanes frame :) (congrArg State.engine frame :)

theorem lanesKept_chargeEntry (ref : Nat) (c : Charge) (s : State) : LanesKept s (chargeEntry ref c s) := by
  have frame := chargeEntry_frame ref c s
  exact .elsewhere (congrArg State.lanes frame :) (congrArg State.engine frame :)

theorem lanesKept_retire (ref : Nat) (c : RetireCause) (s : State) : LanesKept s (retire ref c s) := by
  cases old : (entryAt s ref).occupant with
  | none =>
    rw [retire_free c old]
    exact .refl s
  | some o =>
    have frame := retire_frame c old
    exact .elsewhere (congrArg State.lanes frame :) (congrArg State.engine frame :)

theorem lanesKept_allocateCounted (ref : Nat) (o : Occupant) (set : Option Nat) (s : State) :
    LanesKept s (allocateCounted ref o set s) := by
  have frame := allocateCounted_frame ref o set s
  exact .elsewhere (congrArg State.lanes frame :) (congrArg State.engine frame :)

theorem lanesKept_raiseSpillHigh (before : Occupancy) (s : State) :
    LanesKept s (raiseSpillHigh before s) := by
  rw [raiseSpillHigh_eq]
  exact .elsewhere

theorem lanesKept_requestSet (q : SetRequest) (ref : Nat) (s : State) :
    LanesKept s (requestSet q ref s).1 := by
  unfold requestSet attachSet
  split
  · exact .refl s
  · dsimp only
    split <;> exact .elsewhere

theorem lanesKept_foldl {α : Type} {f : State → α → State} (h : ∀ s a, LanesKept s (f s a)) (l : List α)
    (s : State) : LanesKept s (l.foldl f s) := by
  induction l generalizing s with
  | nil => exact .refl s
  | cons a rest ih => exact (h s a).trans (ih _)

theorem lanesKept_complete (n : SlotNo) (b : Block) (st : Status) (values : List Word16) (s : State) :
    LanesKept s (complete n b st values s) := .elsewhere

theorem lanesKept_performRunning (c : Byte) {work : Block → State → Performed}
    (h : ∀ b s, LanesKept s (work b s).1) (s : State) : LanesKept s (performRunning c work s) := by
  unfold performRunning
  split
  · exact .refl s
  · next n b _ => exact (h b s).trans (lanesKept_complete _ _ _ _ _)

/-- What a command answers, when its change keeps the lanes' laws (R181). -/
theorem lawful_of_act {f : State → State} {s t : State} (h : LanesLawful s)
    (kept : LanesLawful s → LanesLawful (f s)) (e : act f s = .next t) : LanesLawful t := by
  unfold act at e
  cases e
  split
  · exact h
  · exact kept h

theorem lawful_of_directCommand {c : Byte} {work : Block → State → Performed} {s t : State}
    (h : LanesLawful s) (kept : ∀ b s, LanesKept s (work b s).1) (e : directCommand c work s = .next t) :
    LanesLawful t := lawful_of_act h (lanesKept_performRunning c kept s).lawful e

theorem lawful_of_operationParts {offered : State → Bool} {grant finish : State → State} {part : OpPart}
    {s t : State} (h : LanesLawful s) (granted : ∀ s, offered s = true → LanesKept s (grant s))
    (finished : ∀ s, LanesKept s (finish s)) (e : operationParts offered grant finish part s = .next t) :
    LanesLawful t := by
  cases part with
  | whole =>
    refine lawful_of_act h (LanesKept.lawful ?_) e
    split
    · next offer => exact (granted s offer).trans (finished _)
    · exact .refl s
  | grant =>
    refine lawful_of_act h (LanesKept.lawful ?_) e
    split
    · next offer => exact granted s offer
    · exact .refl s
  | finish => exact lawful_of_act h (finished s).lawful e

/-- A command is offered at the Command Unit's grant (R21). -/
theorem nextGrant_of_offersCommand {c : Byte} {s : State} (h : offersCommand c s = true) :
    nextGrant s = some 8 := of_decide_eq_true (Bool.and_eq_true_iff.1 h).1

theorem lawful_of_commandOperation {c : Byte} {work : State → State} {part : OpPart} {s t : State}
    (h : LanesLawful s) (kept : ∀ s, LanesKept s (work s)) (e : commandOperation c work part s = .next t) :
    LanesLawful t := by
  refine lawful_of_operationParts h
    (fun s offer => lanesKept_grantTo 8 (nextGrant_of_offersCommand offer) rfl) (fun s => ?_) e
  unfold finishCommand
  split
  · next granted => exact (lanesKept_engine (by rw [granted.1]; rfl) rfl).trans (kept _)
  · exact .refl s

theorem lawful_of_tableCommand {c : Byte} {work : Block → State → Performed} {part : OpPart} {s t : State}
    (h : LanesLawful s) (kept : ∀ b s, LanesKept s (work b s).1) (e : tableCommand c work part s = .next t) :
    LanesLawful t := lawful_of_commandOperation h (lanesKept_performRunning c kept) e

end Sys2Proof.Machine

namespace Sys2Proof.Machine

-- One proof at a time: the whole text then compiles in few threads.
set_option Elab.async false

/-! ### The host's commands and accesses -/

theorem lanesKept_insertWork (b : Block) (s : State) : LanesKept s (insertWork b s).1 := by
  unfold insertWork
  split
  · exact .refl s
  · split
    · exact .refl s
    · next o _ p _ =>
      split
      · exact .refl s
      · split
        · exact .refl s
        · next ref _ =>
          unfold insertAtRef
          rw [insertCounter_allocate]
          exact (lanesKept_allocateCounted _ _ _ s).trans (lanesKept_raiseSpillHigh _ _)

theorem lanesKept_updateWork (b : Block) (s : State) : LanesKept s (updateWork b s).1 := by
  unfold updateWork
  split
  · split
    · exact .refl s
    · split
      · exact .refl s
      · split <;> exact .elsewhere
  · exact .refl s

theorem lanesKept_removeWork (b : Block) (s : State) : LanesKept s (removeWork b s).1 := by
  unfold removeWork
  split
  · exact .refl s
  · split
    · exact lanesKept_retire _ _ s
    · exact .refl s

theorem lanesKept_removeKeyWork (b : Block) (s : State) : LanesKept s (removeKeyWork b s).1 := by
  unfold removeKeyWork
  split
  · exact .refl s
  · split
    · exact .refl s
    · exact lanesKept_retire _ _ s

theorem lanesKept_findWork (b : Block) (s : State) : LanesKept s (findWork b s).1 := by
  unfold findWork
  split
  · exact .refl s
  · split
    · exact .refl s
    · exact lanesKept_bringUpEntry _ s

theorem lanesKept_readWork (b : Block) (s : State) : LanesKept s (readWork b s).1 := by
  unfold readWork
  split
  · exact .refl s
  · exact lanesKept_bringUpEntry _ s

theorem lanesKept_attachWork (b : Block) (s : State) : LanesKept s (attachWork b s).1 := by
  unfold attachWork
  split
  · next p q _ _ =>
    split
    · exact .refl s
    · split
      · exact .refl s
      · have request := lanesKept_requestSet q p.ref s
        split
        · next e => rw [e] at request; exact request
        · exact .refl s
  · exact .refl s

theorem lanesKept_detachWork (b : Block) (s : State) : LanesKept s (detachWork b s).1 := by
  unfold detachWork
  split
  · exact .refl s
  · split
    · exact .refl s
    · split
      · exact .refl s
      · unfold dropSetField
        split <;> exact .elsewhere

theorem lanesKept_setHashWork (b : Block) (s : State) : LanesKept s (setHashWork b s).1 := by
  unfold setHashWork
  split
  · exact .refl s
  · split <;> exact .elsewhere

theorem lanesKept_setSpillMarkWork (b : Block) (s : State) : LanesKept s (setSpillMarkWork b s).1 := by
  unfold setSpillMarkWork
  split <;> exact .elsewhere

theorem lanesKept_grantTableStats {s : State} (offer : offersCommand 0x0B s = true) :
    LanesKept s (grantTableStats s) := by
  have grant : LanesKept s (grantTo 8 (.readingStats s.tableStats) s) :=
    lanesKept_grantTo 8 (nextGrant_of_offersCommand offer) rfl
  unfold grantTableStats
  dsimp only
  split
  · split
    · exact grant.trans .elsewhere
    · exact grant
  · exact grant

theorem lanesKept_finishTableStats (s : State) : LanesKept s (finishTableStats s) := by
  unfold finishTableStats
  split
  · next reading _ => exact (lanesKept_engine (by rw [reading]; rfl) rfl).trans (lanesKept_complete _ _ _ _ _)
  · exact .refl s

theorem lanesKept_flushStep (q : Selector) (w : Walk) (s : State) : LanesKept s (flushStep q w s).1 := by
  have flush (refs : List Nat) (acc : State × Nat) : LanesKept acc.1 (refs.foldl (flushAt q) acc).1 := by
    induction refs generalizing acc with
    | nil => exact .refl _
    | cons r rest ih =>
      refine .trans ?_ (ih (flushAt q acc r))
      unfold flushAt
      split
      · exact lanesKept_retire _ _ _
      · exact .refl _
  exact flush _ (s, 0)

theorem lanesKept_afterStep (n : SlotNo) (b : Block) (w : Walk) (atEnd : Status) (found : Option Nat)
    (s : State) : LanesKept s (afterStep n b w atEnd found s) := by
  unfold afterStep
  split
  · exact lanesKept_complete _ _ _ _ s
  · split
    · exact lanesKept_complete _ _ _ _ s
    · split
      · exact lanesKept_complete _ _ _ _ s
      · exact .elsewhere

theorem lanesKept_walkWork (c : Byte) {step : Selector → Walk → State → StepFound} (atEnd : Status)
    (h : ∀ q w s, LanesKept s (step q w s).1) (s : State) : LanesKept s (walkWork c step atEnd s) := by
  unfold walkWork
  split
  · split
    · exact lanesKept_complete _ _ _ _ s
    · exact (h _ _ s).trans (lanesKept_afterStep _ _ _ _ _ _)
  · exact .refl s

theorem lanesKept_setDomainWork (b : Block) (s : State) : LanesKept s (setDomainWork b s).1 := by
  unfold setDomainWork
  split
  · exact .refl s
  · split <;> exact .elsewhere

theorem lanesKept_readDomainWork (b : Block) (s : State) : LanesKept s (readDomainWork b s).1 := by
  unfold readDomainWork
  split <;> exact .refl s

theorem lanesKept_setProfileWork (b : Block) (s : State) : LanesKept s (setProfileWork b s).1 := by
  unfold setProfileWork
  split
  · exact .refl s
  · split <;> exact .elsewhere

theorem lanesKept_readProfileWork (b : Block) (s : State) : LanesKept s (readProfileWork b s).1 := by
  unfold readProfileWork
  split <;> exact .refl s

theorem lanesKept_readCountersWork (b : Block) (s : State) : LanesKept s (readCountersWork b s).1 := by
  unfold readCountersWork
  split
  · exact .refl s
  · dsimp only
    split <;> exact .elsewhere

theorem lanesKept_reclaimWork (b : Block) (s : State) : LanesKept s (reclaimWork b s).1 := by
  unfold reclaimWork
  split
  · exact .refl s
  · split <;> exact .elsewhere

theorem lanesKept_setPoolWork (b : Block) (s : State) : LanesKept s (setPoolWork b s).1 := by
  unfold setPoolWork
  split
  · exact .refl s
  · split <;> exact .elsewhere

theorem lanesKept_setAgingWork (b : Block) (s : State) : LanesKept s (setAgingWork b s).1 := by
  unfold setAgingWork
  split <;> exact .elsewhere

theorem lanesKept_sweepNowWork (b : Block) (s : State) : LanesKept s (sweepNowWork b s).1 := by
  unfold sweepNowWork
  split <;> exact .elsewhere

theorem lanesKept_commandStart (s : State) : LanesKept s (commandStart s) := by
  unfold commandStart startSlot
  split
  · split
    · split
      · exact .elsewhere
      · split <;> exact .elsewhere
    · exact .refl s
  · exact .refl s

theorem lanesKept_submitCommand (s : State) : LanesKept s (submitCommand s) := by
  unfold submitCommand
  split <;> exact .elsewhere

theorem lanesKept_writeRetire (value : Word16) (s : State) : LanesKept s (writeRetire value s) := by
  unfold writeRetire retireSlot
  split
  · exact .refl s
  · split <;> exact .elsewhere

theorem lanesKept_abortSlot (n : SlotNo) (s : State) : LanesKept s (abortSlot n s) := by
  unfold abortSlot abortWalk
  split
  · exact .elsewhere
  · split
    · split
      · split <;> exact .elsewhere
      · exact .refl s
    · exact .refl s
  · exact .refl s
  · exact .refl s

theorem lanesKept_writeAbort (value : Word16) (s : State) : LanesKept s (writeAbort value s) := by
  unfold writeAbort
  split
  · exact .refl s
  · exact lanesKept_abortSlot _ s

theorem lanesKept_writeDivider (value : Word16) (s : State) : LanesKept s (writeDivider value s) := by
  unfold writeDivider
  split <;> exact .elsewhere

/-- After device reset every lane is reset and the engine idle (R139, R181). -/
theorem lanesLawful_deviceReset (s : State) (low : Bool) :
    LanesLawful { deviceReset s with resetLow := low } :=
  ⟨fun _ => laneLawful_reset, ⟨fun _ => rfl⟩⟩

theorem lawful_writeReset {value : Word16} {s : State} (h : LanesLawful s) :
    LanesLawful (writeReset value s) := by
  unfold writeReset
  split
  · exact lanesLawful_deviceReset s false
  · exact h

theorem lawful_windowWrite {address : BitVec 7} {value : Word16} {s : State} (h : LanesLawful s) :
    LanesLawful (windowWrite address value s) := by
  unfold windowWrite
  split
  · exact (lanesKept_submitCommand s).lawful h
  · exact (lanesKept_writeRetire _ s).lawful h
  · exact (lanesKept_writeAbort _ s).lawful h
  · exact LanesKept.lawful .elsewhere h
  · exact LanesKept.lawful .elsewhere h
  · exact (lanesKept_writeDivider _ s).lawful h
  · exact lawful_writeReset h
  · split
    · exact LanesKept.lawful .elsewhere h
    · exact h

end Sys2Proof.Machine

namespace Sys2Proof.Machine

-- One proof at a time: the whole text then compiles in few threads.
set_option Elab.async false

/-! ### The lanes' commands and happenings -/

theorem laneKept_settingsWritten {learning pause timeout : Bool} {b : Block} {x y : Lane}
    (h : settingsWritten learning pause timeout b x = some y) : LaneKept x y := by
  unfold settingsWritten at h
  simp only [Option.bind_eq_bind, Option.bind_eq_some_iff] at h
  obtain ⟨_, -, _, -, _, -, h⟩ := h
  cases h
  exact .apart

/-- A lane leaves DOWN or HELD for WAITING with what it holds (R117, R120). -/
theorem laneKept_waiting {x : Lane} (receiveOpen : Bool) (shut : x.state ≠ .ready) :
    LaneKept x { x with state := .waiting, receiveOpen := receiveOpen } where
  lawful h := ⟨h.items, h.oneEach, fun shut' => shut'.elim nofun nofun, fun _ => h.pausing shut⟩
  hand := rfl

theorem lanesKept_laneEnableWork (b : Block) (s : State) : LanesKept s (laneEnableWork b s).1 := by
  unfold laneEnableWork
  split
  · exact .refl s
  · split
    · exact .refl s
    · next x written =>
      split
      · next down =>
        exact lanesKept_setLane ((laneKept_settingsWritten written).trans
          (laneKept_waiting false (by rw [down]; nofun)))
      · exact .refl s

theorem lanesKept_laneSetWork (b : Block) (s : State) : LanesKept s (laneSetWork b s).1 := by
  unfold laneSetWork
  split
  · exact .refl s
  · split
    · exact .refl s
    · next x written => exact lanesKept_setLane (laneKept_settingsWritten written)

theorem lanesKept_laneDisableWork (b : Block) (s : State) : LanesKept s (laneDisableWork b s).1 := by
  unfold laneDisableWork
  split
  · exact .refl s
  · exact lanesKept_onLane _ (laneKept_disabled _)

theorem lanesKept_laneReleaseWork (b : Block) (s : State) : LanesKept s (laneReleaseWork b s).1 := by
  unfold laneReleaseWork
  split
  · exact .refl s
  · split
    · next held =>
      exact lanesKept_onLane (f := fun x => { x with state := .waiting }) _
        (laneKept_waiting _ (by rw [held]; nofun))
    · exact .refl s

theorem lanesKept_readLaneStatsWork (b : Block) (s : State) : LanesKept s (readLaneStatsWork b s).1 := by
  unfold readLaneStatsWork
  split
  · exact .refl s
  · dsimp only
    split
    · exact lanesKept_onLaneStats _ _ s
    · exact .refl s

theorem lanesKept_pauseCancelWork (b : Block) (s : State) : LanesKept s (pauseCancelWork b s).1 := by
  unfold pauseCancelWork
  split
  · exact .refl s
  · exact lanesKept_onLane _ (laneKept_cancelPause _)

theorem lanesKept_laneFault (l : LaneNo) (r : FaultReason) (s : State) :
    LanesKept s (laneFault l r s) := by
  refine LanesKept.trans (lanesKept_onLane l ?_) (lanesKept_raiseCause _ _)
  unfold sendFaultOn
  dsimp only
  split <;> exact .closedOut

/-- A message judged keeps the lanes' laws: items join in READY alone, and a fault or a restart closes the lane
out (R121). -/
theorem lanesKept_judge (l : LaneNo) (r : Received) (s : State) : LanesKept s (judge l r s) := by
  have reply (f : FaultReason) : LanesKept s (onLane l (sendFaultOn f) s) :=
    lanesKept_onLane l (laneKept_sendFaultOn f _)
  have restart : LanesKept s (onLane l restartLane s) := lanesKept_onLane l (laneKept_restartLane _)
  unfold judge
  split
  · exact .refl s
  · exact .refl s
  · exact reply _
  · exact lanesKept_laneFault l _ s
  · exact lanesKept_laneFault l _ s
  · unfold judgeWaiting
    split
    · exact restart
    · exact reply _
    · exact reply _
  · next ready =>
    unfold judgeReady
    split
    · exact restart
    · split
      · exact lanesKept_laneFault l _ s
      · next free =>
        exact lanesKept_onLane l (laneKept_takeLookup _ _ _ ready (Bool.eq_false_iff.2 free))
    · exact lanesKept_onLane l (laneKept_takeSettle _ _ _ ready)

theorem lanesKept_receive (l : LaneNo) (opening : Opening) (r : Received) (s : State) :
    LanesKept s (receive l opening r s) := by
  have heard : LanesKept s (setLane l { laneAt s l with receiveOpen := true } s) := lanesKept_setLane .apart
  unfold receive
  dsimp only
  split
  · exact .refl s
  · split
    · exact heard
    · exact heard.trans (lanesKept_judge _ _ _)

theorem lanesKept_ageTick (s : State) : LanesKept s (ageTick s) := by
  unfold ageTick
  dsimp only
  split <;> exact .elsewhere

theorem lanesKept_microsecondTick (s : State) : LanesKept s (microsecondTick s) :=
  lanesKept_onEveryLane laneKept_countDownPause rfl rfl

theorem lanesKept_millisecondTick (s : State) : LanesKept s (millisecondTick s) :=
  lanesKept_onEveryLane (laneKept_testTimers _) rfl rfl

theorem lanesKept_finishSweep (s : State) : LanesKept s (finishSweep s) := by
  have visited (ref : Nat) (u : State) : LanesKept u (visit ref u) := by
    have frame := visit_frame ref u
    exact .elsewhere (congrArg State.lanes frame :) (congrArg State.engine frame :)
  unfold finishSweep
  split
  · next granted =>
    have visits : LanesKept s (visitStep s) := lanesKept_foldl (fun u ref => visited ref u) _ s
    have advanced : LanesKept (visitStep s) (advanceSweep (visitStep s)) := by
      unfold advanceSweep
      split <;> exact .elsewhere
    have kept := visits.trans advanced
    exact kept.trans (lanesKept_engine (kept.engine.trans (by rw [granted]; rfl)) rfl)
  · exact .refl s

/-! ### The effects of a resolve and of a settle operation -/

theorem lanesKept_applyMeter (ref : Nat) (l : LaneNo) (s : State) : LanesKept s (applyMeter ref l s).1 := by
  have bring := lanesKept_bringUpEntry ref s
  unfold applyMeter
  split
  · exact .refl s
  · dsimp only
    split
    · exact bring
    · split
      · exact bring.trans (lanesKept_chargeEntry _ _ _)
      · exact bring.trans (lanesKept_onLane l (laneKept_pauseDemand _ _))

theorem lanesKept_rehome (ref : Nat) (o : Occupant) (a : Aging) (l : LaneNo) (limit : Nat) (s : State) :
    LanesKept s (rehome ref o a l limit s) := by
  have home : LanesKept s
      (setOccupant ref { o with place := .unicast l, life := .live (movedAging limit a).1 } s) := .elsewhere
  have moved := home.trans (lanesKept_onLaneStats l (fun st => { st with moves := raise32 st.moves }) _)
  unfold rehome
  dsimp only
  split
  · exact moved.trans .elsewhere
  · exact moved

theorem lanesKept_homeTest (ref : Nat) (o : Occupant) (i : ResolveInput) (s : State) :
    LanesKept s (homeTest ref o i s).1 := by
  unfold homeTest
  split
  · exact .refl s
  · split
    · exact .refl s
    · exact .elsewhere
    all_goals
      split
      · exact .refl s
      · exact lanesKept_rehome _ _ _ _ _ s

theorem lanesKept_knownSource (ref : Nat) (o : Occupant) (i : ResolveInput) (s : State) :
    LanesKept s (knownSource ref o i s).1 := by
  have hear : LanesKept s (setOccupant ref { o with life := heard o.life } s) := .elsewhere
  have home := hear.trans (lanesKept_homeTest ref { o with life := heard o.life } i _)
  unfold knownSource
  dsimp only
  split
  · exact hear
  · split
    · next e => rw [e] at home; exact home
    · next e => rw [e] at home; exact home.trans (lanesKept_applyMeter _ _ _)

theorem lanesKept_sourceStage (i : ResolveInput) (s : State) : LanesKept s (sourceStage i s).1 := by
  unfold sourceStage
  split
  · exact .refl s
  · split
    · exact .refl s
    · exact lanesKept_knownSource _ _ i s

theorem lanesKept_learn (i : ResolveInput) (s : State) : LanesKept s (learn i s).1 := by
  cases place : freePlace s ⟨i.domain, i.source⟩ with
  | none =>
    rw [learn_full place]
    exact ((lanesKept_onTableStats _ s).trans (lanesKept_onLaneStats i.lane _ _)).trans
      (lanesKept_raiseCause .tableFull _)
  | some ref =>
    rw [learn_at place]
    dsimp only [learnedAt]
    exact ((lanesKept_allocateCounted ref _ _ s).trans (lanesKept_onTableStats _ _)).trans
      (lanesKept_onLaneStats i.lane _ _)

theorem lanesKept_resolveStages (i : ResolveInput) (s : State) : LanesKept s (resolveStages i s).1 := by
  have stage := lanesKept_sourceStage i s
  unfold resolveStages
  split
  · exact .refl s
  · split
    · next e => rw [e] at stage; exact stage
    · next e =>
      rw [e] at stage
      refine stage.trans ?_
      unfold deliverAndLearn
      dsimp only
      split
      · exact lanesKept_learn _ _
      · split <;> exact .refl _

/-- A resolve keeps its item in hand while its effects are made (R133). -/
theorem lanesKept_performResolve (s : State) : LanesKept s (performResolve s) := by
  cases engine : s.engine with
  | resolving i =>
    rw [performResolve_eq engine]
    exact ⟨(lanesKept_resolveStages i s).lane, by rw [engine]; rfl⟩
  | _ =>
    rw [performResolve, engine]
    exact .refl s

/-- A settle operation changes of the lanes a statistic alone (R136). -/
theorem laneKept_settleWork (i : SettleInput) (s : State) (l : LaneNo) :
    LaneKept (laneAt s l) (laneAt (settleWork i s) l) := by
  by_cases lost : ChargeLost i s
  · rw [laneAt_settleWork_lost lost]
    split
    · next own => exact own ▸ .apart
    · exact .refl _
  · rw [laneAt_settleWork_kept lost]
    exact .refl _

theorem lanesKept_performSettle (s : State) : LanesKept s (performSettle s) := by
  cases engine : s.engine with
  | settling i =>
    rw [performSettle_eq engine]
    exact ⟨laneKept_settleWork i s, by rw [engine]; rfl⟩
  | _ =>
    rw [performSettle, engine]
    exact .refl s

/-! ### The grants and the closes of the lanes' operations -/

/-- With the engine idle no lane has an item in hand (R133). -/
theorem LanesLawful.empty_hand {s : State} (h : LanesLawful s) {l : LaneNo}
    (other : inHandOf s.engine l = none) : (laneAt s l).inHand = none :=
  Option.map_eq_none_iff.1 ((h.hands.item l).trans other)

/-- The engine's operation is lane `l`'s, on an item of kind `k` and tag `t` (R133). -/
def HeldBy (e : Engine) (l : LaneNo) (k : ItemKind) (t : TagNo) : Prop :=
  ∀ m, inHandOf e m = if l = m then some (k, t) else none

/-- A lane's grant takes its head item in hand for an operation of that item's kind and tag (R133). -/
theorem LanesLawful.granted {s : State} (h : LanesLawful s) {l : LaneNo} {item : Item} {rest : List Item}
    (k : Fin 10) {e : Engine} (idle : s.engine = .idle) (queue : (laneAt s l).queue = item :: rest)
    (held : HeldBy e l (itemKind item) (itemTag item)) : LanesLawful (onLane l takeInHand (grantTo k e s)) := by
  have empty (m : LaneNo) : (laneAt s m).inHand = none := h.empty_hand (by rw [idle]; rfl)
  have lane (m : LaneNo) : laneAt (onLane l takeInHand (grantTo k e s)) m =
      if m = l then takeInHand (laneAt s l) else laneAt s m := laneAt_onLane l m takeInHand (grantTo k e s)
  refine ⟨fun m => ?_, ⟨fun m => ?_⟩⟩
  · rw [lane]
    split
    · exact (h.lane l).takeInHand (empty l)
    · exact h.lane m
  · rw [lane]
    refine Eq.trans ?_ (held m).symm
    by_cases own : m = l
    · rw [if_pos own, if_pos own.symm, takeInHand, queue]
      rfl
    · rw [if_neg own, if_neg (Ne.symm own), empty m]
      rfl

/-- A result handed back to its lane ends the operation (R134, R137). -/
theorem LanesLawful.handedBack {s : State} (h : LanesLawful s) {l : LaneNo} {k : ItemKind} {t : TagNo}
    {f : Lane → Lane} (held : HeldBy s.engine l k t) (ended : ∀ x, (f x).inHand = none)
    (lawful : ∀ x, LaneLawful x → (∀ i ∈ x.inHand, itemTag i.item = t) → LaneLawful (f x)) :
    LanesLawful (onLane l f { s with engine := .idle }) := by
  have lane (m : LaneNo) : laneAt (onLane l f { s with engine := .idle }) m =
      if m = l then f (laneAt s l) else laneAt s m := laneAt_onLane l m f { s with engine := .idle }
  refine ⟨fun m => ?_, ⟨fun m => ?_⟩⟩
  · rw [lane]
    split
    · refine lawful _ (h.lane l) fun i mem => ?_
      have hand := h.hands.item l
      rw [held, if_pos rfl, Option.mem_def.1 mem] at hand
      exact congrArg Prod.snd (Option.some.inj hand)
    · exact h.lane m
  · rw [lane]
    split
    · rw [ended]
      rfl
    · next other => rw [h.empty_hand ((held m).trans (if_neg (Ne.symm other)))]; rfl

/-- A resolve is offered on the head item of a lane's queue while the engine is idle (R21, R23). -/
theorem resolveOffer_some {s : State} {i : ResolveInput} (h : resolveOffer s = some i) :
    s.engine = .idle ∧ ∃ rest,
      (laneAt s i.lane).queue = .lookup i.tag i.domain i.destination i.source :: rest := by
  unfold resolveOffer at h
  split at h
  · cases h
  · next grant =>
    split at h
    · split at h
      · next queue => cases h; exact ⟨nextGrant_idle grant, _, queue⟩
      · cases h
    · cases h

/-- A settle operation is offered on the head item of a lane's queue while the engine is idle (R21, R23). -/
theorem settleOffer_some {s : State} {i : SettleInput} (h : settleOffer s = some i) :
    s.engine = .idle ∧ ∃ rest, (laneAt s i.lane).queue = .settle i.tag i.good i.byteCount :: rest := by
  unfold settleOffer at h
  split at h
  · cases h
  · next grant =>
    split at h
    · split at h
      · next queue =>
        split at h
        · cases h; exact ⟨nextGrant_idle grant, _, queue⟩
        · cases h
      · cases h
    · cases h

theorem lawful_grantResolve {s : State} (h : LanesLawful s) : LanesLawful (grantResolve s) := by
  unfold grantResolve
  split
  · exact h
  · next i offer =>
    obtain ⟨idle, rest, queue⟩ := resolveOffer_some offer
    exact h.granted _ idle queue fun _ => rfl

theorem lawful_grantSettle {s : State} (h : LanesLawful s) : LanesLawful (grantSettle s) := by
  unfold grantSettle
  split
  · exact h
  · next i offer =>
    obtain ⟨idle, rest, queue⟩ := settleOffer_some offer
    exact h.granted _ idle queue fun _ => rfl

theorem lawful_finishResolve {s : State} (h : LanesLawful s) : LanesLawful (finishResolve s) := by
  have performed := (lanesKept_performResolve s).lawful h
  unfold finishResolve closeResolve
  split
  · next i r before engine =>
    have held : HeldBy (performResolve s).engine i.lane .lookup i.tag := by
      rw [engine]
      exact fun _ => rfl
    exact (lanesKept_raiseSpillHigh _ _).lawful
      (performed.handedBack held (takeVerdict_inHand _ _ _) fun _ lawful hand => lawful.takeVerdict hand _ _)
  · exact performed

theorem lawful_finishSettle {s : State} (h : LanesLawful s) : LanesLawful (finishSettle s) := by
  have performed := (lanesKept_performSettle s).lawful h
  unfold finishSettle closeSettle
  split
  · next l t before engine =>
    have held : HeldBy (performSettle s).engine l .settle t := by
      rw [engine]
      exact fun _ => rfl
    exact performed.handedBack held (takeSettled_inHand _) fun _ lawful hand => lawful.takeSettled hand
  · exact performed

theorem lawful_resolve {part : LaneOpPart} {s t : State} (h : LanesLawful s)
    (e : execResolve part s = .next t) : LanesLawful t := by
  cases part with
  | whole =>
    refine lawful_of_act h (fun h => ?_) e
    split
    · exact lawful_finishResolve (lawful_grantResolve h)
    · exact h
  | grant => exact lawful_of_act h lawful_grantResolve e
  | perform => exact lawful_of_act h (lanesKept_performResolve s).lawful e
  | finish => exact lawful_of_act h lawful_finishResolve e

theorem lawful_settleOperation {part : LaneOpPart} {s t : State} (h : LanesLawful s)
    (e : execSettleOperation part s = .next t) : LanesLawful t := by
  cases part with
  | whole =>
    refine lawful_of_act h (fun h => ?_) e
    split
    · exact lawful_finishSettle (lawful_grantSettle h)
    · exact h
  | grant => exact lawful_of_act h lawful_grantSettle e
  | perform => exact lawful_of_act h (lanesKept_performSettle s).lawful e
  | finish => exact lawful_of_act h lawful_finishSettle e

/-! ### Every command keeps the lanes' laws -/

theorem lawful_exec {c : Instr} {s t : State} (h : LanesLawful s) (e : exec c s = .next t) :
    LanesLawful t := by
  cases c with
  | lookup => exact lawful_of_act h (lanesKept_receive _ _ _ s).lawful e
  | settle => exact lawful_of_act h (lanesKept_receive _ _ _ s).lawful e
  | restart => exact lawful_of_act h (lanesKept_receive _ _ _ s).lawful e
  | malformedMessage => exact lawful_of_act h (lanesKept_receive _ _ _ s).lawful e
  | transmitMessage => exact lawful_of_act h (lanesKept_onLane _ (laneKept_transmitNext _)).lawful e
  | resolve => exact lawful_resolve h e
  | settleOperation => exact lawful_settleOperation h e
  | settleTimeout => exact lawful_of_act h (lanesKept_onLane _ (laneKept_timeOut _ _)).lawful e
  | ageTick =>
    refine lawful_of_act h (LanesKept.lawful ?_) e
    split
    · exact lanesKept_ageTick s
    · exact .refl s
  | sweepStep =>
    exact lawful_of_operationParts h (fun s offer => lanesKept_grantTo 9 (of_decide_eq_true offer) rfl)
      lanesKept_finishSweep e
  | pauseExpiry => exact lawful_of_act h (lanesKept_onLane _ (laneKept_expirePause _)).lawful e
  | microsecondTick =>
    refine lawful_of_act h (LanesKept.lawful ?_) e
    split
    · exact lanesKept_microsecondTick s
    · exact .refl s
  | millisecondTick =>
    refine lawful_of_act h (LanesKept.lawful ?_) e
    split
    · exact lanesKept_millisecondTick s
    · exact .refl s
  | commandStart => exact lawful_of_act h (lanesKept_commandStart s).lawful e
  | insert => exact lawful_of_tableCommand h lanesKept_insertWork e
  | update => exact lawful_of_tableCommand h lanesKept_updateWork e
  | remove => exact lawful_of_tableCommand h lanesKept_removeWork e
  | removeKey => exact lawful_of_tableCommand h lanesKept_removeKeyWork e
  | find => exact lawful_of_tableCommand h lanesKept_findWork e
  | read => exact lawful_of_tableCommand h lanesKept_readWork e
  | attach => exact lawful_of_tableCommand h lanesKept_attachWork e
  | detach => exact lawful_of_tableCommand h lanesKept_detachWork e
  | setHash => exact lawful_of_tableCommand h lanesKept_setHashWork e
  | setSpillMark => exact lawful_of_tableCommand h lanesKept_setSpillMarkWork e
  | readTableStats =>
    exact lawful_of_operationParts h (fun _ => lanesKept_grantTableStats) lanesKept_finishTableStats e
  | flush => exact lawful_of_commandOperation h (lanesKept_walkWork _ _ lanesKept_flushStep) e
  | count => exact lawful_of_commandOperation h (lanesKept_walkWork _ _ fun _ _ => .refl) e
  | search => exact lawful_of_commandOperation h (lanesKept_walkWork _ _ fun _ _ => .refl) e
  | setDomain => exact lawful_of_directCommand h lanesKept_setDomainWork e
  | readDomain => exact lawful_of_directCommand h lanesKept_readDomainWork e
  | setProfile => exact lawful_of_directCommand h lanesKept_setProfileWork e
  | readProfile => exact lawful_of_directCommand h lanesKept_readProfileWork e
  | readCounters => exact lawful_of_directCommand h lanesKept_readCountersWork e
  | reclaim => exact lawful_of_directCommand h lanesKept_reclaimWork e
  | setPool => exact lawful_of_directCommand h lanesKept_setPoolWork e
  | setAging => exact lawful_of_directCommand h lanesKept_setAgingWork e
  | sweepNow => exact lawful_of_directCommand h lanesKept_sweepNowWork e
  | laneEnable => exact lawful_of_directCommand h lanesKept_laneEnableWork e
  | laneSet => exact lawful_of_directCommand h lanesKept_laneSetWork e
  | laneDisable => exact lawful_of_directCommand h lanesKept_laneDisableWork e
  | laneRelease => exact lawful_of_directCommand h lanesKept_laneReleaseWork e
  | readLaneStats => exact lawful_of_directCommand h lanesKept_readLaneStatsWork e
  | pauseCancel => exact lawful_of_directCommand h lanesKept_pauseCancelWork e
  | submit => exact lawful_of_act h (lanesKept_submitCommand s).lawful e
  | retire => exact lawful_of_act h (lanesKept_writeRetire _ s).lawful e
  | abort => exact lawful_of_act h (lanesKept_writeAbort _ s).lawful e
  | interruptPending => exact lawful_of_act h (LanesKept.lawful .elsewhere) e
  | interruptEnable => exact lawful_of_act h (LanesKept.lawful .elsewhere) e
  | timebaseDivider => exact lawful_of_act h (lanesKept_writeDivider _ s).lawful e
  | millisecondCounterLowRead => exact lawful_of_act h (LanesKept.lawful .elsewhere) e
  | resetWord => exact lawful_of_act h lawful_writeReset e
  | resetPin =>
    cases e
    exact lanesLawful_deviceReset s true
  | resetPinRelease =>
    cases e
    exact LanesKept.lawful .elsewhere h
  | registerWrite => exact lawful_of_act h lawful_windowWrite e

/-- Settles O59: each command keeps every lane lawful and the items in hand matched with the engine. -/
theorem stepKeepsLanes : Obligations.StepKeepsLanes := by
  intro s t h e
  unfold step at e
  split at e
  · cases e
    exact h
  · exact lawful_exec (LanesKept.lawful .elsewhere h) e

end Sys2Proof.Machine

namespace Sys2Proof.Machine

-- One proof at a time: the whole text then compiles in few threads.
set_option Elab.async false

/-! ### A lane's timers and its pause record -/

/-- Settles O30: each end is one change of its lane. -/
theorem laneTimersRunOut : Obligations.LaneTimersRunOut := by
  refine ⟨fun l t record s h settling => ?_, fun l q s h pausing => ?_⟩
  · refine (act_awake _ h).trans ?_
    unfold onLane timeOut
    rw [settling]
    rfl
  · refine (act_awake _ h).trans ?_
    unfold onLane expirePause
    rw [pausing]
    rfl

/-- Settles O21: the lane's state and setting first, then the record and its remaining time. -/
theorem pauseDemandTable : Obligations.PauseDemandTable := by
  refine fun q x => ⟨fun shut => ?_, fun ready on => ⟨fun remaining quantum pausing half => ?_, ?_⟩⟩
  · unfold pauseDemand
    exact if_pos shut
  all_goals
    have takes : ¬(x.state ≠ .ready ∨ x.pauseOn = false) := by simp [ready, on]
    unfold pauseDemand
    rw [if_neg takes]
  · rw [pausing]
    exact if_pos half
  · rintro (idle | ⟨remaining, quantum, pausing, less⟩)
    · rw [idle]
      rfl
    · rw [pausing]
      exact if_neg (Nat.not_le.2 less)

/-! ### Bringing a meter up -/

/-- Elapsed times that do not run round add up (R91). -/
theorem elapsed_add {stamp t₁ t₂ : Time} (short : (t₁ - stamp).toNat + (t₂ - t₁).toNat < 4294967296) :
    (t₂ - stamp).toNat = (t₁ - stamp).toNat + (t₂ - t₁).toNat := by
  have split : t₂ - stamp = (t₁ - stamp) + (t₂ - t₁) := by
    rw [add_comm, sub_add_sub_cancel]
  rw [split, BitVec.toNat_add, Nat.mod_eq_of_lt short]

/-- Settles O53: the refills of both times add up, and a cap before a refill does not show after the last cap. -/
theorem bringUpsCompose : Obligations.BringUpsCompose := by
  intro p m t₁ t₂ short
  have cap (first second : Nat) : min (p.ceiling : Int) (min (p.ceiling : Int) (m.credit + first) + second) =
      min (p.ceiling : Int) (m.credit + (first + second : Nat)) := by omega
  unfold broughtUp
  dsimp only
  rw [cap, ← Nat.add_mul, ← elapsed_add short]

/-! ### FIND and READ -/

/-- The entry at `ref` as a report shows it: its meter brought up to now (R95). -/
def reportedEntry (s : State) (ref : Nat) : Entry :=
  ⟨(entryAt s ref).generation, (entryAt s ref).occupant.map fun o => { o with meter := meterNow s o }⟩

/-- A bring-up leaves the entry as a report shows it, FREE or occupied, and every other one as it is (R95). -/
theorem entryAt_bringUpEntry (ref k : Nat) (s : State) :
    entryAt (bringUpEntry ref s) k = if k = ref then reportedEntry s ref else entryAt s k := by
  unfold reportedEntry
  cases old : (entryAt s ref).occupant with
  | none =>
    have stands : bringUpEntry ref s = s := by
      have inactive : activeMeter s ref = none := by rw [activeMeter, old]
      rw [bringUpEntry, inactive]
    rw [stands]
    split
    · next own => rw [own]; exact congrArg (Entry.mk _) old
    · rfl
  | some o =>
    have becomes := EntryBecomes.bringUpEntry old
    split
    · next own => rw [own]; exact becomes.entry
    · next other => exact becomes.others k other

/-- A report that completes its command, in a granted state (R159, R160). -/
theorem report_ended (n : SlotNo) (b : Block) (ref : Nat) (s : State) :
    let r := report ref { s with engine := .idle }
    let t := finished n b r.2.1 r.2.2 r.1
    entryAt t ref = reportedEntry s ref ∧ (∀ k, k ≠ ref → entryAt t k = entryAt s k) ∧
      { t with entries := s.entries } = ended n b .ok (entryImage ref (reportedEntry s ref)) s := by
  have entry (k : Nat) := entryAt_bringUpEntry ref k { s with engine := .idle }
  have own : entryAt (bringUpEntry ref { s with engine := .idle }) ref = reportedEntry s ref :=
    (entry ref).trans (if_pos rfl)
  refine ⟨own, fun k other => (entry k).trans (if_neg other), ?_⟩
  dsimp only [report]
  rw [own]
  exact congrArg (finished n b .ok (entryImage ref (reportedEntry s ref)))
    (bringUpEntry_frame ref { s with engine := .idle })

/-- Settles O39: both commands come to one report. -/
theorem findAndReadReport : Obligations.FindAndReadReport := by
  intro n b ref s reported
  refine ⟨fun key h named found => ⟨_, (tableCommand_finish findWork h).trans ?_, report_ended n b ref s⟩,
    fun h number low => ⟨_, (tableCommand_finish readWork h).trans ?_, report_ended n b ref s⟩⟩
  · have found' : searchKey { s with engine := .idle } key = some ref := found
    unfold findWork
    rw [named]
    dsimp only
    rw [found']
  · unfold readWork refOf
    rw [number, if_pos low]

end Sys2Proof.Machine

namespace Sys2Proof.Machine

-- One proof at a time: the whole text then compiles in few threads.
set_option Elab.async false

/-! ### The settings that LANE_ENABLE and LANE_SET write -/

/-- The words of the named settings hold values that R118 takes. -/
def SettingsFit (learning pause timeout : Bool) (b : Block) : Prop :=
  (learning = true → (wordAt b 8).toNat ≤ 1) ∧ (pause = true → (wordAt b 9).toNat ≤ 1) ∧
    (timeout = true → (wordAt b 10).toNat ≤ 255)

/-- An on/off word is read exactly when it is 0 or 1 (R185). -/
theorem onOffOf_eq_some {w : Word16} {on : Bool} :
    onOffOf w = some on ↔ w.toNat ≤ 1 ∧ on = decide (w = 1) := by
  have codes : w.toNat ≤ 1 ↔ w = 0 ∨ w = 1 := by bv_omega
  rw [onOffOf, eitherOf_eq_some, codes]
  constructor
  · rintro (⟨rfl, rfl⟩ | ⟨rfl, rfl⟩) <;> simp
  · rintro ⟨rfl | rfl, rfl⟩ <;> simp

/-- A settle timeout is read exactly when it is at most 255 ms (Table 7-2). -/
theorem timeoutOf_eq_some {w : Word16} {timeout : Byte} :
    timeoutOf w = some timeout ↔ w.toNat ≤ 255 ∧ timeout = w.setWidth 8 := by
  unfold timeoutOf domainOf
  simp only [← Nat.lt_succ_iff (n := 255)]
  split <;> simp_all [eq_comm]

/-- A field that may be named, by what its word reads as: the named word must fit (R118). -/
theorem fieldOr_iff {α : Type} {named : Bool} {value : Option α} {kept read x : α} {fits : Prop}
    (reads : ∀ v, value = some v ↔ fits ∧ v = read) :
    fieldOr named value kept = some x ↔ (named = true → fits) ∧ x = if named then read else kept := by
  rw [fieldOr_eq_some]
  cases named <;> simp [reads]

/-- The settings written, field by field (R118). -/
theorem settingsWritten_eq_some {learning pause timeout : Bool} {b : Block} {x y : Lane} :
    settingsWritten learning pause timeout b x = some y ↔ SettingsFit learning pause timeout b ∧
      y = { x with
        learning := if learning then decide (wordAt b 8 = 1) else x.learning
        pauseOn := if pause then decide (wordAt b 9 = 1) else x.pauseOn
        settleTimeout := if timeout then (wordAt b 10).setWidth 8 else x.settleTimeout } := by
  simp only [settingsWritten, Option.bind_eq_bind, Option.bind_eq_some_iff,
    fieldOr_iff (fun _ => onOffOf_eq_some), fieldOr_iff (fun _ => timeoutOf_eq_some)]
  constructor
  · rintro ⟨_, ⟨learned, rfl⟩, _, ⟨paused, rfl⟩, _, ⟨timed, rfl⟩, ⟨⟩⟩
    exact ⟨⟨learned, paused, timed⟩, rfl⟩
  · rintro ⟨⟨learned, paused, timed⟩, rfl⟩
    exact ⟨_, ⟨learned, rfl⟩, _, ⟨paused, rfl⟩, _, ⟨timed, rfl⟩, rfl⟩

/-- Settings that do not fit are refused (R118). -/
theorem settingsWritten_unfit {learning pause timeout : Bool} {b : Block} (x : Lane)
    (unfit : ¬SettingsFit learning pause timeout b) : settingsWritten learning pause timeout b x = none := by
  cases written : settingsWritten learning pause timeout b x with
  | none => rfl
  | some y => exact absurd (settingsWritten_eq_some.1 written).1 unfit

/-! ### What each lane command gives -/

/-- Every lane command is refused a lane above 7 (R100, R117 to R120, R138). -/
theorem laneWorks_high {b : Block} (s : State) (high : 7 < (wordAt b 2).toNat) :
    laneEnableWork b s = (s, .badArg, []) ∧ laneSetWork b s = (s, .badArg, []) ∧
      laneDisableWork b s = (s, .badArg, []) ∧ laneReleaseWork b s = (s, .badArg, []) ∧
      readLaneStatsWork b s = (s, .badArg, []) ∧ pauseCancelWork b s = (s, .badArg, []) := by
  have lane : laneOf (wordAt b 2) = none := belowOf_eq_none high
  simp only [laneEnableWork, laneSetWork, laneDisableWork, laneReleaseWork, readLaneStatsWork,
    pauseCancelWork, lane, refusedWith, and_self]

section
variable {b : Block} {l : LaneNo} {s : State} (number : (wordAt b 2).toNat = l.val)
include number

/-- A lane number, read. -/
theorem laneOf_number : laneOf (wordAt b 2) = some l := belowOf_eq_some.2 number

theorem laneEnableWork_refused
    (refused : ¬SettingsFit true true true b ∨ (laneAt s l).state ≠ .down) :
    laneEnableWork b s = (s, .badArg, []) := by
  unfold laneEnableWork
  rw [laneOf_number number]
  dsimp only
  split
  · rfl
  · next x written =>
    obtain ⟨fit, rfl⟩ := settingsWritten_eq_some.1 written
    exact if_neg (refused.resolve_left (not_not.2 fit))

theorem laneEnableWork_enabled (fit : SettingsFit true true true b) (down : (laneAt s l).state = .down) :
    laneEnableWork b s =
      (setLane l { laneAt s l with
        state := .waiting, receiveOpen := false
        learning := decide (wordAt b 8 = 1), pauseOn := decide (wordAt b 9 = 1)
        settleTimeout := (wordAt b 10).setWidth 8 } s, .ok, []) := by
  unfold laneEnableWork
  rw [laneOf_number number]
  dsimp only
  rw [settingsWritten_eq_some.2 ⟨fit, rfl⟩]
  exact if_pos down

theorem laneSetWork_refused (unfit : ¬SettingsFit (selected b 0) (selected b 1) (selected b 2) b) :
    laneSetWork b s = (s, .badArg, []) := by
  unfold laneSetWork
  rw [laneOf_number number]
  dsimp only
  rw [settingsWritten_unfit _ unfit]
  rfl

theorem laneSetWork_written (fit : SettingsFit (selected b 0) (selected b 1) (selected b 2) b) :
    laneSetWork b s =
      (setLane l { laneAt s l with
        learning := if selected b 0 then decide (wordAt b 8 = 1) else (laneAt s l).learning
        pauseOn := if selected b 1 then decide (wordAt b 9 = 1) else (laneAt s l).pauseOn
        settleTimeout := if selected b 2 then (wordAt b 10).setWidth 8
          else (laneAt s l).settleTimeout } s, .ok, []) := by
  unfold laneSetWork
  rw [laneOf_number number]
  dsimp only
  rw [settingsWritten_eq_some.2 ⟨fit, rfl⟩]

theorem laneDisableWork_eq : laneDisableWork b s = (setLane l (disabled (laneAt s l)) s, .ok, []) := by
  unfold laneDisableWork
  rw [laneOf_number number]
  rfl

theorem laneReleaseWork_refused (other : (laneAt s l).state ≠ .held) :
    laneReleaseWork b s = (s, .badArg, []) := by
  unfold laneReleaseWork
  rw [laneOf_number number]
  exact if_neg other

theorem laneReleaseWork_released (held : (laneAt s l).state = .held) :
    laneReleaseWork b s = (setLane l { laneAt s l with state := .waiting } s, .ok, []) := by
  unfold laneReleaseWork
  rw [laneOf_number number]
  exact if_pos held

theorem readLaneStatsWork_eq :
    readLaneStatsWork b s =
      (if selected b 0 then setLane l { laneAt s l with stats := .zero } s else s, .ok,
        laneWords (laneAt s l)) := by
  unfold readLaneStatsWork
  rw [laneOf_number number]
  rfl

theorem pauseCancelWork_eq : pauseCancelWork b s = (setLane l (cancelPause (laneAt s l)) s, .ok, []) := by
  unfold pauseCancelWork
  rw [laneOf_number number]
  rfl

end

/-- Settles O47: each command is refused, or writes its lane once. -/
theorem laneCommands : Obligations.LaneCommands := by
  refine ⟨fun n b l s number => ⟨fun h => ⟨fun refused => ?_, fun ⟨learned, paused, timed⟩ down => ?_⟩,
      fun h => ⟨fun unfit => ?_, fun fit => ?_⟩, fun h => ⟨fun down => ?_, fun up => ?_⟩,
      fun h => ⟨fun other => ?_, fun held => ?_⟩⟩,
    fun n b s => ⟨fun l number => ⟨fun h => ⟨fun keep => ?_, fun clear => ?_⟩,
      fun h => ⟨fun idle => ?_, fun remaining q pausing => ?_⟩⟩, fun high p mem h => ?_⟩⟩
  · exact directCommand_finished h (laneEnableWork_refused number
      (refused.imp_left fun unfit ⟨learned, paused, timed⟩ => unfit ⟨learned rfl, paused rfl, timed rfl⟩))
  · exact directCommand_finished h
      (laneEnableWork_enabled number ⟨fun _ => learned, fun _ => paused, fun _ => timed⟩ down)
  · exact directCommand_finished h (laneSetWork_refused number unfit)
  · exact directCommand_finished h (laneSetWork_written number fit)
  · refine directCommand_finished h ((laneDisableWork_eq number).trans ?_)
    rw [disabled, if_pos down]
    rfl
  · refine directCommand_finished h ((laneDisableWork_eq number).trans ?_)
    rw [disabled, if_neg up]
    rfl
  · exact directCommand_finished h (laneReleaseWork_refused number other)
  · exact directCommand_finished h (laneReleaseWork_released number held)
  · refine directCommand_finished h ((readLaneStatsWork_eq number).trans ?_)
    rw [selected, keep]
    rfl
  · refine directCommand_finished h ((readLaneStatsWork_eq number).trans ?_)
    rw [selected, clear]
    rfl
  · refine directCommand_finished h ((pauseCancelWork_eq number).trans ?_)
    rw [cancelPause, idle]
    rfl
  · refine directCommand_finished h ((pauseCancelWork_eq number).trans ?_)
    rw [cancelPause, pausing]
    rfl
  · obtain ⟨enable, set, disable, release, stats, cancel⟩ := laneWorks_high s high
    simp only [List.mem_cons, List.not_mem_nil, or_false] at mem
    rcases mem with rfl | rfl | rfl | rfl | rfl | rfl
    · exact directCommand_finished h enable
    · exact directCommand_finished h set
    · exact directCommand_finished h disable
    · exact directCommand_finished h release
    · exact directCommand_finished h stats
    · exact directCommand_finished h cancel

end Sys2Proof.Machine

namespace Sys2Proof.Machine

-- One proof at a time: the whole text then compiles in few threads.
set_option Elab.async false

/-! ### The set an entry names -/

/-- The counter set that the occupied entry at `ref` names, if any (R102). -/
def setNamed (s : State) (ref : Nat) : Option Nat := (entryAt s ref).occupant.bind (·.counterSet)

theorem setNamed_of_occupant {s : State} {ref : Nat} {o : Occupant}
    (old : (entryAt s ref).occupant = some o) : setNamed s ref = o.counterSet := by
  rw [setNamed, old, Option.bind_some]

theorem setNamed_of_free {s : State} {ref : Nat} (free : (entryAt s ref).occupant = none) :
    setNamed s ref = none := by
  rw [setNamed, free, Option.bind_none]

theorem setNamed_eq_some {s : State} {ref n : Nat} : setNamed s ref = some n ↔ ∃ o, NamesSet s ref o n :=
  Option.bind_eq_some_iff

theorem setNamed_congr {s t : State} (entries : t.entries = s.entries) (k : Nat) :
    setNamed t k = setNamed s k := by
  rw [setNamed, entryAt, entries]
  rfl

theorem pairAt_congr {s t : State} (entries : t.entries = s.entries) (k : Nat) : pairAt t k = pairAt s k := by
  rw [pairAt, entryAt, entries]
  rfl

/-- An occupant written makes its entry name the set it names. -/
theorem setNamed_setOccupant (ref k : Nat) (o : Occupant) (s : State) :
    setNamed (setOccupant ref o s) k = if k = ref then o.counterSet else setNamed s k := by
  rw [setNamed, entryAt_setOccupant]
  split <;> rfl

/-- An occupant written leaves every generation (R5). -/
theorem pairAt_setOccupant (ref k : Nat) (o : Occupant) (s : State) :
    pairAt (setOccupant ref o s) k = pairAt s k := by
  rw [pairAt, entryAt_setOccupant]
  split
  · next own => rw [own]; rfl
  · rfl

/-! ### The pairing by the sets named -/

theorem PoolPaired.attached {s : State} (h : PoolPaired s) {ref n : Nat} (names : setNamed s ref = some n) :
    n < 1024 ∧ (counterSetAt s n).state = .attached (pairAt s ref) := by
  obtain ⟨o, old, set⟩ := setNamed_eq_some.1 names
  exact h.named ref o n old set

theorem PoolPaired.owner {s : State} (h : PoolPaired s) {n : Nat} {p : Pair}
    (attached : (counterSetAt s n).state = .attached p) :
    p = pairAt s p.ref ∧ setNamed s p.ref = some n := by
  obtain ⟨pair, o, old, set⟩ := h.owned n p attached
  exact ⟨pair, setNamed_eq_some.2 ⟨o, old, set⟩⟩

/-- A set that is not FREE has one of the part's numbers (R102). -/
theorem PoolPaired.lt {s : State} (h : PoolPaired s) {n : Nat} (used : (counterSetAt s n).state ≠ .free) :
    n < 1024 := by
  by_contra high
  rw [h.bound n (by omega)] at used
  exact used rfl

/-- A set is ATTACHED to a lifetime exactly when the entry of that lifetime names it (R102). -/
structure NamesPaired (s : State) : Prop where
  attached : ∀ ref n, setNamed s ref = some n → n < 1024 ∧ (counterSetAt s n).state = .attached (pairAt s ref)
  owner : ∀ n p, (counterSetAt s n).state = .attached p → p = pairAt s p.ref ∧ setNamed s p.ref = some n

/-- The pool is paired when the names are, beside its laws that no entry enters (R102, R107). -/
theorem poolPaired_of {s : State} (names : NamesPaired s)
    (free : ∀ n, (counterSetAt s n).state = .free → (counterSetAt s n).counts = .zero)
    (orphaned : s.orphaned = (List.range 1024).countP (isOrphaned s))
    (bound : ∀ n, 1024 ≤ n → counterSetAt s n = .reset) : PoolPaired s where
  named ref o n old set := names.attached ref n (setNamed_eq_some.2 ⟨o, old, set⟩)
  owned n p attached := by
    obtain ⟨pair, named⟩ := names.owner n p attached
    obtain ⟨o, old, set⟩ := setNamed_eq_some.1 named
    exact ⟨pair, o, old, set⟩
  free := free
  orphaned := orphaned
  bound := bound

/-- The pool stays paired when no set is written, every entry names the set it named, and the lifetimes that
name one go on. -/
theorem PoolPaired.of_same {s t : State} (h : PoolPaired s) (named : ∀ k, setNamed t k = setNamed s k)
    (pairs : ∀ k n, setNamed s k = some n → pairAt t k = pairAt s k)
    (sets : ∀ k, counterSetAt t k = counterSetAt s k) (orphaned : t.orphaned = s.orphaned) :
    PoolPaired t := by
  have orphans : isOrphaned t = isOrphaned s := funext fun k => by rw [isOrphaned, sets, isOrphaned]
  refine poolPaired_of ⟨fun ref n names => ?_, fun n p attached => ?_⟩ (fun n => ?_) ?_ fun n => ?_
  · rw [named] at names
    rw [sets, pairs ref n names]
    exact h.attached names
  · rw [sets] at attached
    obtain ⟨pair, names⟩ := h.owner attached
    rw [named, pairs p.ref n names]
    exact ⟨pair, names⟩
  · rw [sets]
    exact h.free n
  · rw [orphaned, orphans]
    exact h.orphaned
  · rw [sets]
    exact h.bound n

/-! ### One set written -/

/-- The one set number `n` is written as `c`, and the orphaned count follows (R107). -/
structure SetWritten (n : Nat) (c : CounterSet) (s t : State) : Prop where
  sets : ∀ k, counterSetAt t k = if k = n then c else counterSetAt s k
  orphaned : t.orphaned + (isOrphaned s n).toNat = s.orphaned + (isOrphaned t n).toNat

theorem SetWritten.at {n : Nat} {c : CounterSet} {s t : State} (w : SetWritten n c s t) :
    counterSetAt t n = c := (w.sets n).trans (if_pos rfl)

theorem SetWritten.other {n : Nat} {c : CounterSet} {s t : State} (w : SetWritten n c s t) {k : Nat}
    (apart : k ≠ n) : counterSetAt t k = counterSetAt s k := (w.sets k).trans (if_neg apart)

/-- A set written that is no more and no less an orphan than it was. -/
theorem setWritten_of_unorphaned {n : Nat} {c : CounterSet} {s t : State}
    (sets : ∀ k, counterSetAt t k = if k = n then c else counterSetAt s k) (orphaned : t.orphaned = s.orphaned)
    (same : isOrphaned t n = isOrphaned s n) : SetWritten n c s t := ⟨sets, by rw [orphaned, same]⟩

/-- Of two tests that differ at one listed number at most, the counts differ as the tests at it do. -/
theorem countP_add_toNat {l : List Nat} {p q : Nat → Bool} {r : Nat} (nodup : l.Nodup) (mem : r ∈ l)
    (other : ∀ k, k ≠ r → q k = p k) : l.countP q + (p r).toNat = l.countP p + (q r).toNat := by
  have rest : (l.erase r).countP q = (l.erase r).countP p := countP_eq_of_not_mem nodup.not_mem_erase other
  have perm := List.perm_cons_erase mem
  rw [perm.countP_eq, perm.countP_eq, List.countP_cons, List.countP_cons, rest]
  cases p r <;> cases q r <;> simp

/-- The orphans counted follow a set written (R107). -/
theorem SetWritten.count {n : Nat} {c : CounterSet} {s t : State} (w : SetWritten n c s t) (lt : n < 1024) :
    (List.range 1024).countP (isOrphaned t) + (isOrphaned s n).toNat =
      (List.range 1024).countP (isOrphaned s) + (isOrphaned t n).toNat :=
  countP_add_toNat List.nodup_range (List.mem_range.2 lt) fun k apart => by
    rw [isOrphaned, w.other apart, isOrphaned]

/-- The pool stays paired when one set is written and the names stay paired. -/
theorem PoolPaired.of_written {s t : State} (h : PoolPaired s) {n : Nat} {c : CounterSet} (lt : n < 1024)
    (w : SetWritten n c s t) (fresh : c.state = .free → c.counts = .zero) (names : NamesPaired t) :
    PoolPaired t := by
  refine poolPaired_of names (fun k free => ?_) ?_ fun k high => ?_
  · by_cases own : k = n
    · rw [own, w.at] at free ⊢
      exact fresh free
    · rw [w.other own] at free ⊢
      exact h.free k free
  · have counted := w.count lt
    have follows := w.orphaned
    have law := h.orphaned
    omega
  · rw [w.other (by omega)]
    exact h.bound k high

/-- A set's counts written, its state kept: a charge, or a clearing read (R108, R109). -/
theorem PoolPaired.recounted {s t : State} (h : PoolPaired s) {n : Nat} {k : Counts} (lt : n < 1024)
    (fresh : (counterSetAt s n).state = .free → k = .zero)
    (sets : ∀ m, counterSetAt t m = if m = n then ⟨(counterSetAt s n).state, k⟩ else counterSetAt s m)
    (entries : t.entries = s.entries) (orphaned : t.orphaned = s.orphaned) : PoolPaired t := by
  have state (m : Nat) : (counterSetAt t m).state = (counterSetAt s m).state := by
    rw [sets]
    split
    · next own => rw [own]
    · rfl
  have unorphaned : isOrphaned t n = isOrphaned s n := by rw [isOrphaned, state, isOrphaned]
  refine h.of_written lt (setWritten_of_unorphaned sets orphaned unorphaned) fresh ⟨fun r m names => ?_,
    fun m p attached => ?_⟩
  · rw [setNamed_congr entries] at names
    rw [state, pairAt_congr entries]
    exact h.attached names
  · rw [state] at attached
    rw [pairAt_congr entries, setNamed_congr entries]
    exact h.owner attached

/-- A FREE set becomes ATTACHED to the entry at `ref`, which named none and names it now (R103). -/
theorem PoolPaired.given {s t : State} (h : PoolPaired s) {ref n : Nat} (lt : n < 1024)
    (free : (counterSetAt s n).state = .free) (bare : setNamed s ref = none)
    (named : ∀ k, setNamed t k = if k = ref then some n else setNamed s k)
    (pairs : ∀ k, k ≠ ref → pairAt t k = pairAt s k)
    (sets : ∀ k, counterSetAt t k = if k = n then ⟨.attached (pairAt t ref), .zero⟩ else counterSetAt s k)
    (orphaned : t.orphaned = s.orphaned) : PoolPaired t := by
  have given : counterSetAt t n = ⟨.attached (pairAt t ref), .zero⟩ := (sets n).trans (if_pos rfl)
  have unorphaned : isOrphaned t n = isOrphaned s n := by simp only [isOrphaned, given, free]
  have w := setWritten_of_unorphaned sets orphaned unorphaned
  refine h.of_written lt w nofun ⟨fun r m names => ?_, fun m p attached => ?_⟩
  · rw [named] at names
    split at names
    · next own =>
      obtain rfl := Option.some.inj names
      rw [own, given]
      exact ⟨lt, rfl⟩
    · next other =>
      obtain ⟨low, attached⟩ := h.attached names
      have apart : m ≠ n := fun same => by rw [same, free] at attached; cases attached
      rw [w.other apart, pairs r other]
      exact ⟨low, attached⟩
  · by_cases own : m = n
    · rw [own, given] at attached
      obtain rfl := SetState.attached.inj attached
      exact ⟨rfl, own ▸ (named _).trans (if_pos rfl)⟩
    · rw [w.other own] at attached
      obtain ⟨pair, names⟩ := h.owner attached
      have other : p.ref ≠ ref := fun same => by rw [same, bare] at names; cases names
      rw [pairs _ other, named, if_neg other]
      exact ⟨pair, names⟩

/-- The set that the entry at `ref` named is named no more, and becomes FREE or ORPHANED (R105, R106). -/
theorem PoolPaired.taken {s t : State} (h : PoolPaired s) {ref n : Nat} {c : CounterSet}
    (names : setNamed s ref = some n) (w : SetWritten n c s t) (loose : ∀ p, c.state ≠ .attached p)
    (fresh : c.state = .free → c.counts = .zero)
    (named : ∀ k, setNamed t k = if k = ref then none else setNamed s k)
    (pairs : ∀ k, pairAt t k = pairAt s k) : PoolPaired t := by
  obtain ⟨lt, mine⟩ := h.attached names
  refine h.of_written lt w fresh ⟨fun r m others => ?_, fun m p attached => ?_⟩
  · rw [named] at others
    split at others
    · cases others
    · next other =>
      obtain ⟨low, attached⟩ := h.attached others
      have apart : m ≠ n := fun same =>
        other (congrArg Pair.ref (SetState.attached.inj ((same ▸ attached).symm.trans mine)))
      rw [w.other apart, pairs]
      exact ⟨low, attached⟩
  · by_cases own : m = n
    · rw [own, w.at] at attached
      exact absurd attached (loose p)
    · rw [w.other own] at attached
      obtain ⟨pair, theirs⟩ := h.owner attached
      have other : p.ref ≠ ref := fun same => own (Option.some.inj (theirs.symm.trans (same ▸ names)))
      rw [pairs, named, if_neg other]
      exact ⟨pair, theirs⟩

/-- An ORPHANED set becomes FREE, and the orphaned count falls by one (R111). -/
theorem PoolPaired.reclaimed {s t : State} (h : PoolPaired s) {n : Nat} {key : Key}
    (orphan : (counterSetAt s n).state = .orphaned key)
    (sets : ∀ k, counterSetAt t k = if k = n then .reset else counterSetAt s k)
    (entries : t.entries = s.entries) (orphaned : t.orphaned = s.orphaned - 1) : PoolPaired t := by
  have lt := h.lt (n := n) (by rw [orphan]; nofun)
  have was : isOrphaned s n = true := by rw [isOrphaned, orphan]
  have is : isOrphaned t n = false := by rw [isOrphaned, sets, if_pos rfl, CounterSet.reset]
  have counted : 0 < s.orphaned := by
    rw [h.orphaned]
    exact List.countP_pos_iff.2 ⟨n, List.mem_range.2 lt, was⟩
  have w : SetWritten n .reset s t := ⟨sets, by rw [was, is, orphaned]; exact Nat.sub_add_cancel counted⟩
  refine h.of_written lt w (fun _ => rfl) ⟨fun r m names => ?_, fun m p attached => ?_⟩
  · rw [setNamed_congr entries] at names
    obtain ⟨low, attached⟩ := h.attached names
    have apart : m ≠ n := fun same => by rw [same, orphan] at attached; cases attached
    rw [w.other apart, pairAt_congr entries]
    exact ⟨low, attached⟩
  · by_cases own : m = n
    · rw [own, w.at] at attached
      cases attached
    · rw [w.other own] at attached
      rw [pairAt_congr entries, setNamed_congr entries]
      exact h.owner attached

end Sys2Proof.Machine

namespace Sys2Proof.Machine

-- One proof at a time: the whole text then compiles in few threads.
set_option Elab.async false

/-! ### Changes of the part that keep the pool paired -/

/-- A change from `s` to `t` keeps counter sets and entries paired. -/
structure PoolKept (s t : State) : Prop where
  paired : PoolPaired s → PoolPaired t

theorem PoolKept.refl (s : State) : PoolKept s s := ⟨id⟩

theorem PoolKept.trans {s t u : State} (h : PoolKept s t) (g : PoolKept t u) : PoolKept s u :=
  ⟨fun paired => g.paired (h.paired paired)⟩

/-- A change elsewhere leaves the entries, the counter sets and the orphaned count. -/
theorem PoolKept.elsewhere {s t : State} (entries : t.entries = s.entries := by rfl)
    (counterSets : t.counterSets = s.counterSets := by rfl)
    (orphaned : t.orphaned = s.orphaned := by rfl) : PoolKept s t :=
  ⟨fun h => h.of_same (setNamed_congr entries) (fun k _ _ => pairAt_congr entries k)
    (fun k => by rw [counterSetAt, counterSets, counterSetAt]) orphaned⟩

theorem poolKept_onLane (l : LaneNo) (f : Lane → Lane) (s : State) : PoolKept s (onLane l f s) := .elsewhere

theorem poolKept_onEveryLane (f : Lane → Lane) (s : State) : PoolKept s (onEveryLane f s) := by
  have frame := onEveryLane_frame f s
  exact .elsewhere (congrArg State.entries frame :) (congrArg State.counterSets frame :)
    (congrArg State.orphaned frame :)

theorem poolKept_complete (n : SlotNo) (b : Block) (st : Status) (values : List Word16) (s : State) :
    PoolKept s (complete n b st values s) := .elsewhere

theorem poolKept_raiseSpillHigh (before : Occupancy) (s : State) :
    PoolKept s (raiseSpillHigh before s) := by
  rw [raiseSpillHigh_eq]
  exact .elsewhere

theorem poolKept_foldl {α : Type} {f : State → α → State} (h : ∀ s a, PoolKept s (f s a)) (l : List α)
    (s : State) : PoolKept s (l.foldl f s) := by
  induction l generalizing s with
  | nil => exact .refl s
  | cons a rest ih => exact (h s a).trans (ih _)

/-! ### Entries written -/

/-- An occupant written over one that names the same set keeps the pool paired. -/
theorem poolKept_setOccupant {s : State} {ref : Nat} {o o' : Occupant}
    (old : (entryAt s ref).occupant = some o) (set : o'.counterSet = o.counterSet) :
    PoolKept s (setOccupant ref o' s) := by
  refine ⟨fun h => h.of_same (fun k => ?_) (fun k _ _ => pairAt_setOccupant ref k o' s) (fun _ => rfl) rfl⟩
  rw [setNamed_setOccupant]
  split
  · next own => rw [own, setNamed_of_occupant old, set]
  · rfl

theorem poolKept_bringUpEntry (ref : Nat) (s : State) : PoolKept s (bringUpEntry ref s) := by
  unfold bringUpEntry
  split
  · exact .refl s
  · next active => exact poolKept_setOccupant (activeMeter_some active).1 rfl

theorem poolKept_debitEntry (ref bytes : Nat) (s : State) : PoolKept s (debitEntry ref bytes s) := by
  unfold debitEntry
  split
  · exact .refl s
  · next active => exact poolKept_setOccupant (activeMeter_some active).1 rfl

/-! ### Charges -/

theorem poolKept_chargeEntry (ref : Nat) (c : Charge) (s : State) : PoolKept s (chargeEntry ref c s) := by
  unfold chargeEntry chargeSet
  split
  · exact .refl s
  · next n _ =>
    split
    · next mine =>
      refine ⟨fun h => h.recounted (n := n) (k := charged c (counterSetAt s n).counts)
        (h.lt (by rw [mine]; nofun)) (fun free => ?_) (fun m => ?_) rfl rfl⟩
      · exact nomatch mine.symm.trans free
      · rw [counterSetAt_setCounterSetAt, mine]
    · exact .refl s

/-! ### Sets given to entries -/

/-- An allocation of a FREE entry keeps the pool paired: its set, if it has one, is a FREE one (R103). -/
theorem poolKept_allocateCounted {s : State} {ref : Nat} (o : Occupant) {set : Option Nat}
    (vacant : (entryAt s ref).occupant = none)
    (fresh : ∀ n, set = some n → n < 1024 ∧ (counterSetAt s n).state = .free) :
    PoolKept s (allocateCounted ref o set s) := by
  have bare : setNamed s ref = none := setNamed_of_free vacant
  have entry (k : Nat) := entryAt_allocateCounted ref k o set s
  have sets (k : Nat) := counterSetAt_allocateCounted ref k o set s
  have named (k : Nat) : setNamed (allocateCounted ref o set s) k = if k = ref then set else setNamed s k := by
    rw [setNamed, entry]
    split <;> rfl
  have pairs (k : Nat) (other : k ≠ ref) : pairAt (allocateCounted ref o set s) k = pairAt s k := by
    rw [pairAt, entry, if_neg other, pairAt]
  have orphaned : (allocateCounted ref o set s).orphaned = s.orphaned :=
    (congrArg State.orphaned (allocateCounted_frame ref o set s) :)
  cases set with
  | none =>
    refine ⟨fun h => h.of_same (fun k => ?_) (fun k n names => ?_) sets orphaned⟩
    · rw [named]
      split
      · next own => rw [own, bare]
      · rfl
    · exact pairs k fun own => by rw [own, bare] at names; cases names
  | some n =>
    obtain ⟨lt, free⟩ := fresh n rfl
    refine ⟨fun h => h.given lt free bare named pairs (fun k => ?_) orphaned⟩
    rw [sets, pairAt, entry, if_pos rfl]
    simp only [Option.some.injEq, eq_comm (a := n)]

/-- A set attached to an occupied entry (R103). -/
theorem attachSet_eq {s : State} {ref : Nat} {o : Occupant} (n : Nat)
    (old : (entryAt s ref).occupant = some o) :
    attachSet n ref s = setOccupant ref { o with counterSet := some n }
      (setCounterSetAt n ⟨.attached (pairAt s ref), .zero⟩ s) := by
  rw [attachSet, old]

/-- A FREE set attached to an entry that names none keeps the pool paired (R103). -/
theorem poolKept_attachSet {s : State} {ref n : Nat} (lt : n < 1024)
    (free : (counterSetAt s n).state = .free) (bare : setNamed s ref = none) :
    PoolKept s (attachSet n ref s) := by
  cases old : (entryAt s ref).occupant with
  | none =>
    rw [attachSet, old]
    exact .refl s
  | some o =>
    rw [attachSet_eq n old]
    refine ⟨fun h => h.given (ref := ref) lt free bare (setNamed_setOccupant ref · _ _)
      (fun k _ => pairAt_setOccupant ref k _ _) (fun k => ?_) rfl⟩
    rw [pairAt_setOccupant]
    exact counterSetAt_setCounterSetAt n k ⟨.attached (pairAt s ref), .zero⟩ s

/-- A named request is for one of the part's sets (R185). -/
def RequestLegal (q : SetRequest) : Prop := ∀ n, q = .named n → n < 1024

/-- The set given to a request is a FREE one of the part's (R103). -/
theorem answerRequest_fresh {q : SetRequest} {s : State} {n : Nat} (legal : RequestLegal q)
    (answer : answerRequest q s = some n) : n < 1024 ∧ (counterSetAt s n).state = .free := by
  refine ⟨?_, answerRequest_some answer⟩
  unfold answerRequest at answer
  cases q with
  | any =>
    dsimp only at answer
    exact (lowestFreeSet_iff.1 answer).1
  | named m =>
    dsimp only at answer
    split at answer
    · obtain rfl := Option.some.inj answer
      exact legal m rfl
    · cases answer

theorem requestLegal_of_setOrAnyOf {w : Word16} {q : SetRequest} (read : setOrAnyOf w = some q) :
    RequestLegal q := by
  rintro n rfl
  obtain ⟨-, any⟩ | ⟨k, lt, -, named⟩ := setOrAnyOf_eq_some.1 read
  · cases any
  · obtain rfl := SetRequest.named.inj named
    exact lt

theorem requestLegal_of_counterRequestOf {w : Word16} {q : SetRequest}
    (read : counterRequestOf w = some (some q)) : RequestLegal q := by
  rintro n rfl
  obtain ⟨-, none⟩ | ⟨-, any⟩ | ⟨k, lt, -, named⟩ := counterRequestOf_eq_some.1 read
  · cases none
  · cases any
  · obtain rfl := SetRequest.named.inj (Option.some.inj named)
    exact lt

/-! ### Sets taken from entries -/

/-- The set of a retired entry after its hand-over (R106). -/
def handedOver (s : State) (o : Occupant) (n : Nat) : CounterSet :=
  if s.autoReclaim then .reset else ⟨.orphaned o.key, (counterSetAt s n).counts⟩

/-- A retirement frees or orphans the set its entry named, and the orphaned count follows (R13, R107). -/
theorem poolKept_retire (ref : Nat) (c : RetireCause) (s : State) : PoolKept s (retire ref c s) := by
  cases old : (entryAt s ref).occupant with
  | none =>
    rw [retire_free c old]
    exact .refl s
  | some o =>
    have was := setNamed_of_occupant old
    have sets := counterSetAt_retire c old
    have orphaned := (counts_retire c old).2
    rw [List.countP_singleton, namesSet_of_occupant old] at orphaned
    have named (k : Nat) : setNamed (retire ref c s) k = if k = ref then none else setNamed s k := by
      rw [setNamed, entryAt_retire c old]
      split <;> rfl
    have pairs (k : Nat) : pairAt (retire ref c s) k = pairAt s k := by
      rw [pairAt, entryAt_retire c old]
      split
      · next own => rw [own, pairAt]
      · rfl
    cases set : o.counterSet with
    | none =>
      rw [set] at was sets orphaned
      refine ⟨fun h => h.of_same (fun k => ?_) (fun k _ _ => pairs k) sets (by simpa using orphaned)⟩
      rw [named]
      split
      · next own => rw [own, was]
      · rfl
    | some n =>
      rw [set] at was sets orphaned
      simp only [Option.some.injEq, eq_comm (a := n)] at sets
      refine ⟨fun h => h.taken was (c := handedOver s o n) ⟨fun k => ?_, ?_⟩ ?_ ?_ named pairs⟩
      · rw [sets]
        split
        · next own => rw [own, handedOver]
        · rfl
      · rw [isOrphaned, (h.attached was).2, isOrphaned, sets, if_pos rfl, orphaned]
        cases s.autoReclaim <;> rfl
      · unfold handedOver
        split <;> nofun
      · unfold handedOver
        split
        · exact fun _ => rfl
        · nofun

theorem dropSetField_eq {s : State} {ref : Nat} {o : Occupant} (old : (entryAt s ref).occupant = some o) :
    dropSetField ref s = setOccupant ref { o with counterSet := none } s := by
  rw [dropSetField, old]

/-- A set detached from the entry that names it becomes FREE (R105). -/
theorem poolKept_detach {s : State} {ref n : Nat} (names : setNamed s ref = some n) :
    PoolKept s (freeSet n (dropSetField ref s)) := by
  obtain ⟨o, old, -⟩ := setNamed_eq_some.1 names
  rw [dropSetField_eq old]
  have sets (k : Nat) := counterSetAt_setCounterSetAt n k .reset (setOccupant ref { o with counterSet := none } s)
  refine ⟨fun h => h.taken names (c := .reset) (setWritten_of_unorphaned sets rfl ?_) nofun (fun _ => rfl)
    (setNamed_setOccupant ref · _ s) (pairAt_setOccupant ref · _ s)⟩
  rw [isOrphaned, freeSet, sets, if_pos rfl, isOrphaned, (h.attached names).2]
  rfl

end Sys2Proof.Machine

namespace Sys2Proof.Machine

-- One proof at a time: the whole text then compiles in few threads.
set_option Elab.async false

/-! ### The shared forms of a command -/

theorem poolKept_performRunning (c : Byte) {work : Block → State → Performed}
    (h : ∀ b s, PoolKept s (work b s).1) (s : State) : PoolKept s (performRunning c work s) := by
  unfold performRunning
  split
  · exact .refl s
  · next n b _ => exact (h b s).trans (poolKept_complete _ _ _ _ _)

/-- What a command answers, when its change keeps the pool paired (R181). -/
theorem poolKept_of_act {f : State → State} {s t : State} (h : PoolKept s (f s)) (e : act f s = .next t) :
    PoolKept s t := by
  unfold act at e
  cases e
  split
  · exact .refl s
  · exact h

theorem poolKept_of_directCommand {c : Byte} {work : Block → State → Performed} {s t : State}
    (h : ∀ b s, PoolKept s (work b s).1) (e : directCommand c work s = .next t) : PoolKept s t :=
  poolKept_of_act (poolKept_performRunning c h s) e

theorem poolKept_of_operationParts {offered : State → Bool} {grant finish : State → State} {part : OpPart}
    {s t : State} (granted : ∀ s, PoolKept s (grant s)) (finished : ∀ s, PoolKept s (finish s))
    (e : operationParts offered grant finish part s = .next t) : PoolKept s t := by
  cases part with
  | whole =>
    refine poolKept_of_act ?_ e
    split
    · exact (granted s).trans (finished _)
    · exact .refl s
  | grant =>
    refine poolKept_of_act ?_ e
    split
    · exact granted s
    · exact .refl s
  | finish => exact poolKept_of_act (finished s) e

theorem poolKept_of_commandOperation {c : Byte} {work : State → State} {part : OpPart} {s t : State}
    (h : ∀ s, PoolKept s (work s)) (e : commandOperation c work part s = .next t) : PoolKept s t := by
  refine poolKept_of_operationParts (fun _ => .elsewhere) (fun s => ?_) e
  unfold finishCommand
  split
  · exact PoolKept.trans .elsewhere (h _)
  · exact .refl s

theorem poolKept_of_tableCommand {c : Byte} {work : Block → State → Performed} {part : OpPart} {s t : State}
    (h : ∀ b s, PoolKept s (work b s).1) (e : tableCommand c work part s = .next t) : PoolKept s t :=
  poolKept_of_commandOperation (poolKept_performRunning c h) e

/-! ### The entry commands -/

/-- INSERT's entry takes the set the pool answers with (R152, R153). -/
theorem poolKept_insertWork (b : Block) (s : State) : PoolKept s (insertWork b s).1 := by
  unfold insertWork
  split
  · exact .refl s
  · next o operands =>
    split
    · exact .refl s
    · next p _ =>
      split
      · exact .refl s
      · split
        · exact .refl s
        · next ref place =>
          unfold insertAtRef
          rw [insertCounter_allocate]
          refine (poolKept_allocateCounted _ (freePlace_some place).2 fun n given => ?_).trans
            (poolKept_raiseSpillHigh _ _)
          obtain ⟨q, named, answer⟩ := Option.bind_eq_some_iff.1 given
          obtain ⟨-, -, -, -, -, -, -, counter⟩ := insertOperands_eq_some.1 operands
          rw [named] at counter
          exact answerRequest_fresh (requestLegal_of_counterRequestOf counter) answer

/-- UPDATE leaves the counter set field (R154). -/
theorem poolKept_updateWork (b : Block) (s : State) : PoolKept s (updateWork b s).1 := by
  unfold updateWork
  split
  · split
    · exact .refl s
    · split
      · exact .refl s
      · next old =>
        split
        · exact poolKept_setOccupant old rfl
        · exact .refl s
  · exact .refl s

theorem poolKept_removeWork (b : Block) (s : State) : PoolKept s (removeWork b s).1 := by
  unfold removeWork
  split
  · exact .refl s
  · split
    · exact poolKept_retire _ _ s
    · exact .refl s

theorem poolKept_removeKeyWork (b : Block) (s : State) : PoolKept s (removeKeyWork b s).1 := by
  unfold removeKeyWork
  split
  · exact .refl s
  · split
    · exact .refl s
    · exact poolKept_retire _ _ s

theorem poolKept_findWork (b : Block) (s : State) : PoolKept s (findWork b s).1 := by
  unfold findWork
  split
  · exact .refl s
  · split
    · exact .refl s
    · exact poolKept_bringUpEntry _ s

theorem poolKept_readWork (b : Block) (s : State) : PoolKept s (readWork b s).1 := by
  unfold readWork
  split
  · exact .refl s
  · exact poolKept_bringUpEntry _ s

/-- ATTACH gives a set to an entry that names none (R104). -/
theorem poolKept_attachWork (b : Block) (s : State) : PoolKept s (attachWork b s).1 := by
  unfold attachWork
  split
  · next p q _ read =>
    split
    · exact .refl s
    · split
      · exact .refl s
      · next bare =>
        unfold requestSet
        cases answer : answerRequest q s with
        | none => exact .refl s
        | some n =>
          obtain ⟨lt, free⟩ := answerRequest_fresh (requestLegal_of_setOrAnyOf read) answer
          exact poolKept_attachSet lt free bare
  · exact .refl s

/-- DETACH takes the set the entry names (R105). -/
theorem poolKept_detachWork (b : Block) (s : State) : PoolKept s (detachWork b s).1 := by
  unfold detachWork
  split
  · exact .refl s
  · split
    · exact .refl s
    · split
      · exact .refl s
      · next names => exact poolKept_detach names

/-! ### The configuration commands and the walks -/

theorem poolKept_setHashWork (b : Block) (s : State) : PoolKept s (setHashWork b s).1 := by
  unfold setHashWork
  split
  · exact .refl s
  · split <;> exact .elsewhere

theorem poolKept_setSpillMarkWork (b : Block) (s : State) : PoolKept s (setSpillMarkWork b s).1 := by
  unfold setSpillMarkWork
  split <;> exact .elsewhere

theorem poolKept_grantTableStats (s : State) : PoolKept s (grantTableStats s) := by
  unfold grantTableStats
  dsimp only
  split
  · split <;> exact .elsewhere
  · exact .elsewhere

theorem poolKept_finishTableStats (s : State) : PoolKept s (finishTableStats s) := by
  unfold finishTableStats
  split <;> exact .elsewhere

theorem poolKept_flushStep (q : Selector) (w : Walk) (s : State) : PoolKept s (flushStep q w s).1 := by
  have flush (refs : List Nat) (acc : State × Nat) : PoolKept acc.1 (refs.foldl (flushAt q) acc).1 := by
    induction refs generalizing acc with
    | nil => exact .refl _
    | cons r rest ih =>
      refine .trans ?_ (ih (flushAt q acc r))
      unfold flushAt
      split
      · exact poolKept_retire _ _ _
      · exact .refl _
  exact flush _ (s, 0)

theorem poolKept_afterStep (n : SlotNo) (b : Block) (w : Walk) (atEnd : Status) (found : Option Nat)
    (s : State) : PoolKept s (afterStep n b w atEnd found s) := by
  unfold afterStep
  split
  · exact .elsewhere
  · split
    · exact .elsewhere
    · split <;> exact .elsewhere

theorem poolKept_walkWork (c : Byte) {step : Selector → Walk → State → StepFound} (atEnd : Status)
    (h : ∀ q w s, PoolKept s (step q w s).1) (s : State) : PoolKept s (walkWork c step atEnd s) := by
  unfold walkWork
  split
  · split
    · exact .elsewhere
    · exact (h _ _ s).trans (poolKept_afterStep _ _ _ _ _ _)
  · exact .refl s

/-! ### The commands that other blocks take -/

theorem poolKept_setDomainWork (b : Block) (s : State) : PoolKept s (setDomainWork b s).1 := by
  unfold setDomainWork
  split
  · exact .refl s
  · split <;> exact .elsewhere

theorem poolKept_readDomainWork (b : Block) (s : State) : PoolKept s (readDomainWork b s).1 := by
  unfold readDomainWork
  split <;> exact .refl s

theorem poolKept_setProfileWork (b : Block) (s : State) : PoolKept s (setProfileWork b s).1 := by
  unfold setProfileWork
  split
  · exact .refl s
  · split <;> exact .elsewhere

theorem poolKept_readProfileWork (b : Block) (s : State) : PoolKept s (readProfileWork b s).1 := by
  unfold readProfileWork
  split <;> exact .refl s

/-- READ_COUNTERS with clear zeroes a set's counts and keeps its state (R109). -/
theorem poolKept_readCountersWork (b : Block) (s : State) : PoolKept s (readCountersWork b s).1 := by
  unfold readCountersWork
  split
  · exact .refl s
  · next n number =>
    obtain ⟨lt, -⟩ := counterSetOf_eq_some.1 number
    dsimp only
    split
    · exact ⟨fun h => h.recounted lt (fun _ => rfl) (counterSetAt_setCounterSetAt n · _ s) rfl rfl⟩
    · exact .refl s

theorem poolKept_reclaimWork (b : Block) (s : State) : PoolKept s (reclaimWork b s).1 := by
  unfold reclaimWork
  split
  · exact .refl s
  · split
    · next orphan => exact ⟨fun h => h.reclaimed orphan (counterSetAt_setCounterSetAt _ · .reset s) rfl rfl⟩
    · exact .refl s

theorem poolKept_setPoolWork (b : Block) (s : State) : PoolKept s (setPoolWork b s).1 := by
  unfold setPoolWork
  split
  · exact .refl s
  · split <;> exact .elsewhere

theorem poolKept_setAgingWork (b : Block) (s : State) : PoolKept s (setAgingWork b s).1 := by
  unfold setAgingWork
  split <;> exact .elsewhere

theorem poolKept_sweepNowWork (b : Block) (s : State) : PoolKept s (sweepNowWork b s).1 := by
  unfold sweepNowWork
  split <;> exact .elsewhere

theorem poolKept_laneEnableWork (b : Block) (s : State) : PoolKept s (laneEnableWork b s).1 := by
  unfold laneEnableWork
  split
  · exact .refl s
  · split
    · exact .refl s
    · split <;> exact .elsewhere

theorem poolKept_laneSetWork (b : Block) (s : State) : PoolKept s (laneSetWork b s).1 := by
  unfold laneSetWork
  split
  · exact .refl s
  · split <;> exact .elsewhere

theorem poolKept_laneDisableWork (b : Block) (s : State) : PoolKept s (laneDisableWork b s).1 := by
  unfold laneDisableWork
  split <;> exact .elsewhere

theorem poolKept_laneReleaseWork (b : Block) (s : State) : PoolKept s (laneReleaseWork b s).1 := by
  unfold laneReleaseWork
  split
  · exact .refl s
  · split <;> exact .elsewhere

theorem poolKept_readLaneStatsWork (b : Block) (s : State) : PoolKept s (readLaneStatsWork b s).1 := by
  unfold readLaneStatsWork
  split
  · exact .refl s
  · dsimp only
    split <;> exact .elsewhere

theorem poolKept_pauseCancelWork (b : Block) (s : State) : PoolKept s (pauseCancelWork b s).1 := by
  unfold pauseCancelWork
  split <;> exact .elsewhere

/-! ### The Command Unit and the Host Window -/

theorem poolKept_commandStart (s : State) : PoolKept s (commandStart s) := by
  unfold commandStart startSlot
  split
  · split
    · split
      · exact .elsewhere
      · split <;> exact .elsewhere
    · exact .refl s
  · exact .refl s

theorem poolKept_submitCommand (s : State) : PoolKept s (submitCommand s) := by
  unfold submitCommand
  split <;> exact .elsewhere

theorem poolKept_writeRetire (value : Word16) (s : State) : PoolKept s (writeRetire value s) := by
  unfold writeRetire retireSlot
  split
  · exact .refl s
  · split <;> exact .elsewhere

theorem poolKept_abortSlot (n : SlotNo) (s : State) : PoolKept s (abortSlot n s) := by
  unfold abortSlot abortWalk
  split
  · exact .elsewhere
  · split
    · split
      · split <;> exact .elsewhere
      · exact .refl s
    · exact .refl s
  · exact .refl s
  · exact .refl s

theorem poolKept_writeAbort (value : Word16) (s : State) : PoolKept s (writeAbort value s) := by
  unfold writeAbort
  split
  · exact .refl s
  · exact poolKept_abortSlot _ s

theorem poolKept_writeDivider (value : Word16) (s : State) : PoolKept s (writeDivider value s) := by
  unfold writeDivider
  split <;> exact .elsewhere

/-- After device reset no set is in use (R114). -/
theorem poolKept_deviceReset (s : State) (low : Bool) :
    PoolKept s { deviceReset s with resetLow := low } := by
  have reset : PoolKept .reset { deviceReset s with resetLow := low } := .elsewhere
  exact ⟨fun _ => reset.paired poolPaired_reset⟩

theorem poolKept_writeReset (value : Word16) (s : State) : PoolKept s (writeReset value s) := by
  unfold writeReset
  split
  · exact poolKept_deviceReset s false
  · exact .refl s

theorem poolKept_windowWrite (address : BitVec 7) (value : Word16) (s : State) :
    PoolKept s (windowWrite address value s) := by
  unfold windowWrite
  split
  · exact poolKept_submitCommand s
  · exact poolKept_writeRetire _ s
  · exact poolKept_writeAbort _ s
  · exact .elsewhere
  · exact .elsewhere
  · exact poolKept_writeDivider _ s
  · exact poolKept_writeReset _ s
  · split <;> exact .elsewhere

end Sys2Proof.Machine

namespace Sys2Proof.Machine

-- One proof at a time: the whole text then compiles in few threads.
set_option Elab.async false

/-! ### The lanes' happenings and the timers -/

theorem poolKept_laneFault (l : LaneNo) (r : FaultReason) (s : State) : PoolKept s (laneFault l r s) :=
  .elsewhere

/-- A message judged changes its lane and the pending causes alone (R121). -/
theorem poolKept_judge (l : LaneNo) (r : Received) (s : State) : PoolKept s (judge l r s) := by
  unfold judge
  split
  · exact .refl s
  · exact .refl s
  · exact poolKept_onLane l _ s
  · exact poolKept_laneFault l _ s
  · exact poolKept_laneFault l _ s
  · unfold judgeWaiting
    split <;> exact poolKept_onLane l _ s
  · unfold judgeReady
    split
    · exact poolKept_onLane l _ s
    · split
      · exact poolKept_laneFault l _ s
      · exact poolKept_onLane l _ s
    · exact poolKept_onLane l _ s

theorem poolKept_receive (l : LaneNo) (opening : Opening) (r : Received) (s : State) :
    PoolKept s (receive l opening r s) := by
  unfold receive
  dsimp only
  split
  · exact .refl s
  · split
    · exact .elsewhere
    · exact PoolKept.trans .elsewhere (poolKept_judge _ _ _)

theorem poolKept_ageTick (s : State) : PoolKept s (ageTick s) := by
  unfold ageTick
  dsimp only
  split <;> exact .elsewhere

theorem poolKept_microsecondTick (s : State) : PoolKept s (microsecondTick s) :=
  PoolKept.trans .elsewhere (poolKept_onEveryLane _ _)

theorem poolKept_millisecondTick (s : State) : PoolKept s (millisecondTick s) :=
  PoolKept.trans .elsewhere (poolKept_onEveryLane _ _)

/-! ### The sweep -/

/-- A visit writes an entry's life, or retires the entry (R76). -/
theorem poolKept_visit (ref : Nat) (s : State) : PoolKept s (visit ref s) := by
  unfold visit
  split
  · exact .refl s
  · next old =>
    split
    · split
      · exact poolKept_setOccupant old rfl
      · exact poolKept_retire _ _ s
    · split <;> exact poolKept_setOccupant old rfl
    · exact poolKept_retire _ _ s
    · exact .refl s

theorem poolKept_finishSweep (s : State) : PoolKept s (finishSweep s) := by
  unfold finishSweep
  split
  · have visits : PoolKept s (visitStep s) := poolKept_foldl (fun u ref => poolKept_visit ref u) _ s
    refine visits.trans ?_
    unfold advanceSweep
    split <;> exact .elsewhere
  · exact .refl s

/-! ### The resolve -/

theorem poolKept_applyMeter (ref : Nat) (l : LaneNo) (s : State) : PoolKept s (applyMeter ref l s).1 := by
  have bring := poolKept_bringUpEntry ref s
  unfold applyMeter
  split
  · exact .refl s
  · dsimp only
    split
    · exact bring
    · split
      · exact bring.trans (poolKept_chargeEntry _ _ _)
      · exact bring.trans (poolKept_onLane _ _ _)

theorem poolKept_rehome {ref : Nat} {o : Occupant} {s : State} (a : Aging) (l : LaneNo) (limit : Nat)
    (old : (entryAt s ref).occupant = some o) : PoolKept s (rehome ref o a l limit s) := by
  have home : PoolKept s
      (setOccupant ref { o with place := .unicast l, life := .live (movedAging limit a).1 } s) :=
    poolKept_setOccupant old rfl
  unfold rehome
  dsimp only
  split <;> exact home.trans .elsewhere

theorem poolKept_homeTest {ref : Nat} {o : Occupant} {s : State} (i : ResolveInput)
    (old : (entryAt s ref).occupant = some o) : PoolKept s (homeTest ref o i s).1 := by
  unfold homeTest
  split
  · exact .refl s
  · split
    · exact .refl s
    · exact poolKept_setOccupant old rfl
    all_goals
      split
      · exact .refl s
      · exact poolKept_rehome _ _ _ old

theorem poolKept_knownSource {ref : Nat} {o : Occupant} {s : State} (i : ResolveInput)
    (old : (entryAt s ref).occupant = some o) : PoolKept s (knownSource ref o i s).1 := by
  have hear : PoolKept s (setOccupant ref { o with life := heard o.life } s) := poolKept_setOccupant old rfl
  have read : (entryAt (setOccupant ref { o with life := heard o.life } s) ref).occupant =
      some { o with life := heard o.life } := by rw [entryAt_setOccupant, if_pos rfl]
  have home := hear.trans (poolKept_homeTest i read)
  unfold knownSource
  dsimp only
  split
  · exact hear
  · split
    · next e => rw [e] at home; exact home
    · next e => rw [e] at home; exact home.trans (poolKept_applyMeter _ _ _)

theorem poolKept_sourceStage (i : ResolveInput) (s : State) : PoolKept s (sourceStage i s).1 := by
  unfold sourceStage
  split
  · exact .refl s
  · split
    · exact .refl s
    · next old => exact poolKept_knownSource i old

/-- Learning allocates a FREE place with a FREE set (R35, R59). -/
theorem poolKept_learn (i : ResolveInput) (s : State) : PoolKept s (learn i s).1 := by
  cases place : freePlace s ⟨i.domain, i.source⟩ with
  | none =>
    rw [learn_full place]
    exact .elsewhere
  | some ref =>
    rw [learn_at place]
    refine (poolKept_allocateCounted (learnedOccupant i s) (freePlace_some place).2 fun n given => ?_).trans
      .elsewhere
    unfold autoSet at given
    split at given
    · obtain ⟨lt, free, -⟩ := lowestFreeSet_iff.1 given
      exact ⟨lt, free⟩
    · cases given

theorem poolKept_resolveStages (i : ResolveInput) (s : State) : PoolKept s (resolveStages i s).1 := by
  have stage := poolKept_sourceStage i s
  unfold resolveStages
  split
  · exact .refl s
  · split
    · next e => rw [e] at stage; exact stage
    · next e =>
      rw [e] at stage
      refine stage.trans ?_
      unfold deliverAndLearn
      dsimp only
      split
      · exact poolKept_learn _ _
      · split <;> exact .refl _

theorem poolKept_grantResolve (s : State) : PoolKept s (grantResolve s) := by
  unfold grantResolve
  split <;> exact .elsewhere

theorem poolKept_performResolve (s : State) : PoolKept s (performResolve s) := by
  unfold performResolve
  split
  · exact (poolKept_resolveStages _ s).trans .elsewhere
  · exact .refl s

theorem poolKept_finishResolve (s : State) : PoolKept s (finishResolve s) := by
  refine (poolKept_performResolve s).trans ?_
  unfold finishResolve closeResolve
  split
  · exact PoolKept.trans .elsewhere (poolKept_raiseSpillHigh _ _)
  · exact .refl _

theorem poolKept_resolve {part : LaneOpPart} {s t : State} (e : execResolve part s = .next t) :
    PoolKept s t := by
  cases part with
  | whole =>
    refine poolKept_of_act ?_ e
    split
    · exact (poolKept_grantResolve s).trans (poolKept_finishResolve _)
    · exact .refl s
  | grant => exact poolKept_of_act (poolKept_grantResolve s) e
  | perform => exact poolKept_of_act (poolKept_performResolve s) e
  | finish => exact poolKept_of_act (poolKept_finishResolve s) e

/-! ### The settle operation -/

theorem poolKept_confirmOrReject (i : SettleInput) (ref : Nat) (s : State) :
    PoolKept s (confirmOrReject i ref s) := by
  unfold confirmOrReject
  split
  · exact .refl s
  · next old =>
    split
    · split
      · exact poolKept_setOccupant old rfl
      · split
        · exact poolKept_retire _ _ s
        · exact .refl s
    · exact .refl s

theorem poolKept_settleSource (i : SettleInput) (ref : Nat) (s : State) : PoolKept s (settleSource i ref s) :=
  (poolKept_chargeEntry _ _ s).trans
    ((poolKept_debitEntry _ _ _).trans (poolKept_confirmOrReject _ _ _))

theorem poolKept_settleDestination (i : SettleInput) (ref : Nat) (s : State) :
    PoolKept s (settleDestination i ref s) := by
  unfold settleDestination
  split
  · exact poolKept_chargeEntry _ _ s
  · exact .refl s

theorem poolKept_settlePart (p : Option Pair) {work : Nat → State → State}
    (h : ∀ ref s, PoolKept s (work ref s)) (s : State) : PoolKept s (settlePart p work s).1 := by
  unfold settlePart
  split
  · exact .refl s
  · split
    · exact h _ s
    · exact .refl s

theorem poolKept_settleWork (i : SettleInput) (s : State) : PoolKept s (settleWork i s) := by
  have parts : PoolKept s (partsDone i s) :=
    (poolKept_settlePart _ (poolKept_settleSource i) s).trans
      (poolKept_settlePart _ (poolKept_settleDestination i) _)
  by_cases lost : ChargeLost i s
  · rw [settleWork_lost lost]
    exact parts.trans .elsewhere
  · rw [settleWork_kept lost]
    exact parts

theorem poolKept_grantSettle (s : State) : PoolKept s (grantSettle s) := by
  unfold grantSettle
  split <;> exact .elsewhere

theorem poolKept_performSettle (s : State) : PoolKept s (performSettle s) := by
  unfold performSettle
  split
  · exact (poolKept_settleWork _ s).trans .elsewhere
  · exact .refl s

theorem poolKept_finishSettle (s : State) : PoolKept s (finishSettle s) := by
  refine (poolKept_performSettle s).trans ?_
  unfold finishSettle closeSettle
  split <;> exact .elsewhere

theorem poolKept_settleOperation {part : LaneOpPart} {s t : State}
    (e : execSettleOperation part s = .next t) : PoolKept s t := by
  cases part with
  | whole =>
    refine poolKept_of_act ?_ e
    split
    · exact (poolKept_grantSettle s).trans (poolKept_finishSettle _)
    · exact .refl s
  | grant => exact poolKept_of_act (poolKept_grantSettle s) e
  | perform => exact poolKept_of_act (poolKept_performSettle s) e
  | finish => exact poolKept_of_act (poolKept_finishSettle s) e

/-! ### Every command keeps the pool paired -/

theorem poolKept_exec {c : Instr} {s t : State} (e : exec c s = .next t) : PoolKept s t := by
  cases c with
  | lookup => exact poolKept_of_act (poolKept_receive _ _ _ s) e
  | settle => exact poolKept_of_act (poolKept_receive _ _ _ s) e
  | restart => exact poolKept_of_act (poolKept_receive _ _ _ s) e
  | malformedMessage => exact poolKept_of_act (poolKept_receive _ _ _ s) e
  | transmitMessage => exact poolKept_of_act (poolKept_onLane _ _ s) e
  | resolve => exact poolKept_resolve e
  | settleOperation => exact poolKept_settleOperation e
  | settleTimeout => exact poolKept_of_act (poolKept_onLane _ _ s) e
  | ageTick =>
    refine poolKept_of_act ?_ e
    split
    · exact poolKept_ageTick s
    · exact .refl s
  | sweepStep => exact poolKept_of_operationParts (fun _ => .elsewhere) poolKept_finishSweep e
  | pauseExpiry => exact poolKept_of_act (poolKept_onLane _ _ s) e
  | microsecondTick =>
    refine poolKept_of_act ?_ e
    split
    · exact poolKept_microsecondTick s
    · exact .refl s
  | millisecondTick =>
    refine poolKept_of_act ?_ e
    split
    · exact poolKept_millisecondTick s
    · exact .refl s
  | commandStart => exact poolKept_of_act (poolKept_commandStart s) e
  | insert => exact poolKept_of_tableCommand poolKept_insertWork e
  | update => exact poolKept_of_tableCommand poolKept_updateWork e
  | remove => exact poolKept_of_tableCommand poolKept_removeWork e
  | removeKey => exact poolKept_of_tableCommand poolKept_removeKeyWork e
  | find => exact poolKept_of_tableCommand poolKept_findWork e
  | read => exact poolKept_of_tableCommand poolKept_readWork e
  | attach => exact poolKept_of_tableCommand poolKept_attachWork e
  | detach => exact poolKept_of_tableCommand poolKept_detachWork e
  | setHash => exact poolKept_of_tableCommand poolKept_setHashWork e
  | setSpillMark => exact poolKept_of_tableCommand poolKept_setSpillMarkWork e
  | readTableStats => exact poolKept_of_operationParts poolKept_grantTableStats poolKept_finishTableStats e
  | flush => exact poolKept_of_commandOperation (poolKept_walkWork _ _ poolKept_flushStep) e
  | count => exact poolKept_of_commandOperation (poolKept_walkWork _ _ fun _ _ => .refl) e
  | search => exact poolKept_of_commandOperation (poolKept_walkWork _ _ fun _ _ => .refl) e
  | setDomain => exact poolKept_of_directCommand poolKept_setDomainWork e
  | readDomain => exact poolKept_of_directCommand poolKept_readDomainWork e
  | setProfile => exact poolKept_of_directCommand poolKept_setProfileWork e
  | readProfile => exact poolKept_of_directCommand poolKept_readProfileWork e
  | readCounters => exact poolKept_of_directCommand poolKept_readCountersWork e
  | reclaim => exact poolKept_of_directCommand poolKept_reclaimWork e
  | setPool => exact poolKept_of_directCommand poolKept_setPoolWork e
  | setAging => exact poolKept_of_directCommand poolKept_setAgingWork e
  | sweepNow => exact poolKept_of_directCommand poolKept_sweepNowWork e
  | laneEnable => exact poolKept_of_directCommand poolKept_laneEnableWork e
  | laneSet => exact poolKept_of_directCommand poolKept_laneSetWork e
  | laneDisable => exact poolKept_of_directCommand poolKept_laneDisableWork e
  | laneRelease => exact poolKept_of_directCommand poolKept_laneReleaseWork e
  | readLaneStats => exact poolKept_of_directCommand poolKept_readLaneStatsWork e
  | pauseCancel => exact poolKept_of_directCommand poolKept_pauseCancelWork e
  | submit => exact poolKept_of_act (poolKept_submitCommand s) e
  | retire => exact poolKept_of_act (poolKept_writeRetire _ s) e
  | abort => exact poolKept_of_act (poolKept_writeAbort _ s) e
  | interruptPending => exact poolKept_of_act .elsewhere e
  | interruptEnable => exact poolKept_of_act .elsewhere e
  | timebaseDivider => exact poolKept_of_act (poolKept_writeDivider _ s) e
  | millisecondCounterLowRead => exact poolKept_of_act .elsewhere e
  | resetWord => exact poolKept_of_act (poolKept_writeReset _ s) e
  | resetPin =>
    cases e
    exact poolKept_deviceReset s true
  | resetPinRelease =>
    cases e
    exact .elsewhere
  | registerWrite => exact poolKept_of_act (poolKept_windowWrite _ _ s) e

/-- Settles O58: each command is made of writes that leave the pool alone, or that move one set between FREE,
ATTACHED and ORPHANED together with the entry that names it and the orphaned count. -/
theorem stepKeepsPool : Obligations.StepKeepsPool := by
  intro s t h e
  unfold step at e
  split at e
  · cases e
    exact h
  · exact (PoolKept.trans .elsewhere (poolKept_exec e)).paired h

end Sys2Proof.Machine

namespace Sys2Proof.Machine

-- One proof at a time: the whole text then compiles in few threads.
set_option Elab.async false

/-! ### ATTACH and DETACH -/

/-- The pair that words 2 and 3 name (R185). -/
theorem pairOf_named {b : Block} (low : (wordAt b 2).toNat < 8256) :
    pairOf b = some ⟨(wordAt b 2).toNat, (wordAt b 3).setWidth 8⟩ := by
  rw [pairOf, refOf, if_pos low]
  rfl

/-- A ref above 8255 names no pair (R4). -/
theorem pairOf_high {b : Block} (high : 8256 ≤ (wordAt b 2).toNat) : pairOf b = none := by
  rw [pairOf, refOf, if_neg (Nat.not_lt.2 high)]
  rfl

/-- ATTACH is refused a ref above 8255, and a set that is neither ANY nor 0 to 1023 (R104). -/
theorem attachWork_refused {b : Block} (s : State)
    (refused : 8256 ≤ (wordAt b 2).toNat ∨ setOrAnyOf (wordAt b 8) = none) :
    attachWork b s = (s, .badArg, []) := by
  unfold attachWork
  obtain high | set := refused
  · rw [pairOf_high high]
    rfl
  · rw [set]
    cases pairOf b <;> rfl

section
variable {b : Block} {p : Pair} {s : State}

theorem attachWork_stale {q : SetRequest} (pair : pairOf b = some p) (set : setOrAnyOf (wordAt b 8) = some q)
    (stale : current s p = false) : attachWork b s = (s, .staleRef, []) := by
  unfold attachWork
  rw [pair, set]
  dsimp only
  rw [stale]
  rfl

/-- ATTACH on an entry that names a set gives that set (R104). -/
theorem attachWork_exists {q : SetRequest} {k : Nat} (pair : pairOf b = some p)
    (set : setOrAnyOf (wordAt b 8) = some q) (now : current s p = true) (names : setNamed s p.ref = some k) :
    attachWork b s = (s, .alreadyExists, [word k]) := by
  rw [setNamed] at names
  unfold attachWork
  rw [pair, set]
  dsimp only
  rw [now, names]
  rfl

/-- ATTACH is refused a set that the pool does not give (R103, R104). -/
theorem attachWork_noSet {q : SetRequest} (pair : pairOf b = some p) (set : setOrAnyOf (wordAt b 8) = some q)
    (now : current s p = true) (bare : setNamed s p.ref = none) (answer : answerRequest q s = none) :
    attachWork b s = (s, .noSet, []) := by
  rw [setNamed] at bare
  unfold attachWork requestSet
  rw [pair, set]
  dsimp only
  rw [now, bare, answer]
  rfl

/-- ATTACH on an entry that names no set attaches the set that the pool gives (R103, R104). -/
theorem attachWork_attaches {q : SetRequest} {k : Nat} (pair : pairOf b = some p)
    (set : setOrAnyOf (wordAt b 8) = some q) (now : current s p = true) (bare : setNamed s p.ref = none)
    (answer : answerRequest q s = some k) : attachWork b s = (attachSet k p.ref s, .ok, [word k]) := by
  rw [setNamed] at bare
  unfold attachWork requestSet
  rw [pair, set]
  dsimp only
  rw [now, bare, answer]
  rfl

/-- DETACH is refused a ref above 8255 (R105). -/
theorem detachWork_high (s : State) (high : 8256 ≤ (wordAt b 2).toNat) :
    detachWork b s = (s, .badArg, []) := by
  unfold detachWork
  rw [pairOf_high high]
  rfl

theorem detachWork_stale (pair : pairOf b = some p) (stale : current s p = false) :
    detachWork b s = (s, .staleRef, []) := by
  unfold detachWork
  rw [pair]
  dsimp only
  rw [stale]
  rfl

/-- DETACH is refused an entry that names no set (R105). -/
theorem detachWork_bare (pair : pairOf b = some p) (now : current s p = true) (bare : setNamed s p.ref = none) :
    detachWork b s = (s, .badArg, []) := by
  rw [setNamed] at bare
  unfold detachWork
  rw [pair]
  dsimp only
  rw [now, bare]
  rfl

/-- DETACH frees the set that the entry names (R105). -/
theorem detachWork_detaches {k : Nat} (pair : pairOf b = some p) (now : current s p = true)
    (names : setNamed s p.ref = some k) :
    detachWork b s = (freeSet k (dropSetField p.ref s), .ok, [word k]) := by
  rw [setNamed] at names
  unfold detachWork
  rw [pair]
  dsimp only
  rw [now, names]
  rfl

end

/-- Settles O40: each command's tests in order, then one set attached to the entry or detached from it. -/
theorem attachAndDetach : Obligations.AttachAndDetach := by
  refine ⟨fun n b s => ⟨fun h => ⟨fun refused => ?_, fun q low set stale => ?_⟩,
      fun h => ⟨fun high => ?_, fun low stale => ?_⟩⟩,
    fun n b p o s ref low generation entry => ?_⟩
  · exact tableCommand_ended h (attachWork_refused _ refused)
  · exact tableCommand_ended h (attachWork_stale (pairOf_named low) set stale)
  · exact tableCommand_ended h (detachWork_high _ high)
  · exact tableCommand_ended h (detachWork_stale (pairOf_named low) stale)
  · have pair : pairOf b = some p := by rw [pairOf_named (ref ▸ low), ref, generation]
    have entry' : entryAt { s with engine := .idle } p.ref = ⟨p.generation, some o⟩ := entry
    have now := current_of_entry entry'
    have old : (entryAt { s with engine := .idle } p.ref).occupant = some o := congrArg Entry.occupant entry'
    have named := setNamed_of_occupant old
    have owner : pairAt { s with engine := .idle } p.ref = p := by rw [pairAt, entry']
    refine ⟨fun q h set => ⟨fun k names => ?_, fun bare => ⟨fun taken => ?_, fun k answer => ?_⟩⟩,
      fun h => ⟨fun bare => ?_, fun k names => ?_⟩⟩
    · exact tableCommand_ended h (attachWork_exists pair set now (named.trans names))
    · exact tableCommand_ended h (attachWork_noSet pair set now (named.trans bare) taken)
    · refine tableCommand_ended h ((attachWork_attaches pair set now (named.trans bare) answer).trans ?_)
      rw [attachSet_eq k old, owner, setOccupant, entryAt_setCounterSetAt, entry']
      rfl
    · exact tableCommand_ended h (detachWork_bare pair now (named.trans bare))
    · refine tableCommand_ended h ((detachWork_detaches pair now (named.trans names)).trans ?_)
      rw [dropSetField_eq old, setOccupant, entry']
      rfl

end Sys2Proof.Machine

namespace Sys2Proof.Machine

-- One proof at a time: the whole text then compiles in few threads.
set_option Elab.async false

/-! ### READ_COUNTERS, RECLAIM and SET_POOL -/

theorem counterSetOf_eq_none {w : Word16} (high : 1023 < w.toNat) : counterSetOf w = none :=
  if_neg (Nat.not_lt.2 high)

theorem counterSetOf_number {w : Word16} (low : w.toNat < 1024) : counterSetOf w = some w.toNat :=
  counterSetOf_eq_some.2 ⟨low, rfl⟩

section
variable {b : Block} {s : State}

/-- READ_COUNTERS is refused a set above 1023 (R109). -/
theorem readCountersWork_high (s : State) (high : 1023 < (wordAt b 2).toNat) :
    readCountersWork b s = (s, .badArg, []) := by
  unfold readCountersWork
  rw [counterSetOf_eq_none high]
  rfl

/-- READ_COUNTERS returns the set and, with clear, zeroes its counts (R109). -/
theorem readCountersWork_eq (s : State) (low : (wordAt b 2).toNat < 1024) :
    readCountersWork b s =
      (if selected b 0 then
          setCounterSetAt (wordAt b 2).toNat ⟨(counterSetAt s (wordAt b 2).toNat).state, .zero⟩ s
        else s, .ok,
        setStateWords (wordAt b 2).toNat (counterSetAt s (wordAt b 2).toNat).state ++
          countsWords (counterSetAt s (wordAt b 2).toNat).counts) := by
  unfold readCountersWork
  rw [counterSetOf_number low]

/-- RECLAIM is refused a set that is not ORPHANED (R111). -/
theorem reclaimWork_refused (refused : 1023 < (wordAt b 2).toNat ∨
      ∀ key, (counterSetAt s (wordAt b 2).toNat).state ≠ .orphaned key) :
    reclaimWork b s = (s, .badArg, []) := by
  unfold reclaimWork
  split
  · rfl
  · next n number =>
    obtain ⟨low, rfl⟩ := counterSetOf_eq_some.1 number
    split
    · next key orphan => exact absurd orphan (refused.resolve_left (by omega) key)
    · rfl

/-- RECLAIM frees an ORPHANED set (R111). -/
theorem reclaimWork_orphan {key : Key} (low : (wordAt b 2).toNat < 1024)
    (orphan : (counterSetAt s (wordAt b 2).toNat).state = .orphaned key) :
    reclaimWork b s = ({ freeSet (wordAt b 2).toNat s with orphaned := s.orphaned - 1 }, .ok, []) := by
  unfold reclaimWork
  rw [counterSetOf_number low]
  dsimp only
  rw [orphan]

/-- SET_POOL is refused an auto-reclaim word that is no on/off code, and a watermark above 1024 (R112). -/
theorem setPoolWork_refused (s : State) (refused : 1 < (wordAt b 8).toNat ∨ 1024 < (wordAt b 9).toNat) :
    setPoolWork b s = (s, .badArg, []) := by
  unfold setPoolWork
  split
  · rfl
  · next auto read =>
    have code := (onOffOf_eq_some.1 read).1
    exact if_pos (refused.resolve_left (by omega))

theorem setPoolWork_written (s : State) (code : (wordAt b 8).toNat ≤ 1) (mark : (wordAt b 9).toNat ≤ 1024) :
    setPoolWork b s =
      ({ s with autoReclaim := decide (wordAt b 8 = 1), orphanMark := (wordAt b 9).toNat }, .ok, []) := by
  unfold setPoolWork
  rw [onOffOf_eq_some.2 ⟨code, rfl⟩]
  exact if_neg (Nat.not_lt.2 mark)

end

/-- Settles O46: each command is refused, or reads and writes one set or the two settings. -/
theorem poolCommands : Obligations.PoolCommands := by
  refine fun n b s => ⟨fun h => ⟨fun high => ?_, fun low => ⟨fun keep => ?_, fun clear => ?_⟩⟩,
    fun h => ⟨fun refused => ?_, fun key low orphan => ?_⟩,
    fun h => ⟨fun refused => ?_, fun code mark => ?_⟩⟩
  · exact directCommand_finished h (readCountersWork_high s high)
  · refine directCommand_finished h ((readCountersWork_eq s low).trans ?_)
    rw [selected, keep]
    rfl
  · refine directCommand_finished h ((readCountersWork_eq s low).trans ?_)
    rw [selected, clear]
    rfl
  · exact directCommand_finished h (reclaimWork_refused refused)
  · exact directCommand_finished h (reclaimWork_orphan low orphan)
  · exact directCommand_finished h (setPoolWork_refused s refused)
  · exact directCommand_finished h (setPoolWork_written s code mark)

end Sys2Proof.Machine

namespace Sys2Proof.Machine

-- One proof at a time: the whole text then compiles in few threads.
set_option Elab.async false

/-! ### The tests on a received message -/

section
variable {bytes : List Byte}

/-- A first byte that is none of the three types is a TYPE fault (R121 test 5). -/
theorem readMessage_type (lookup : bytes.head? ≠ some 0x11) (settle : bytes.head? ≠ some 0x12)
    (restart : bytes.head? ≠ some 0x1E) : readMessage bytes = .malformed .type := by
  unfold readMessage
  split
  · exact absurd rfl lookup
  · exact absurd rfl settle
  · exact absurd rfl restart
  · rfl

/-- A length that is not its type's is a LENGTH fault (R121 test 6). -/
theorem readMessage_length
    (length : (bytes.head? = some 0x11 ∧ bytes.length ≠ 16) ∨ (bytes.head? = some 0x12 ∧ bytes.length ≠ 6) ∨
      (bytes.head? = some 0x1E ∧ bytes.length ≠ 2)) :
    readMessage bytes = .malformed .length := by
  unfold readMessage
  split
  · split
    · simp at length
    · rfl
  · split
    · simp at length
    · rfl
  · split
    · simp at length
    · rfl
  · next notLookup notSettle notRestart =>
    rcases length with ⟨type, -⟩ | ⟨type, -⟩ | ⟨type, -⟩
    all_goals obtain ⟨rest, read⟩ := List.head?_eq_some_iff.1 type
    · exact (notLookup rest read).elim
    · exact (notSettle rest read).elim
    · exact (notRestart rest read).elim

theorem readChecked_bad {spoilt : Bool} (bad : spoilt = true ∨ bytes.getLast? ≠ some (crc8 bytes.dropLast)) :
    readChecked spoilt bytes = .malformed .check :=
  if_pos (by simpa using bad)

theorem readChecked_good (good : bytes.getLast? = some (crc8 bytes.dropLast)) :
    readChecked false bytes = readMessage bytes :=
  if_neg (by simp [good])

end

section
variable {body : List Symbol}

theorem readBody_nothing (empty : storedNibbles body = []) : readBody body = .nothing :=
  if_pos (by simp [empty])

/-- An odd number of nibbles, or too few or too many bytes, is a LENGTH fault (R121 test 3). -/
theorem readBody_length (given : storedNibbles body ≠ [])
    (length : (storedNibbles body).length % 2 = 1 ∨ (bytesOfNibbles (storedNibbles body)).length < 2 ∨
      16 < (bytesOfNibbles (storedNibbles body)).length) :
    readBody body = .malformed .length :=
  (if_neg (by simpa using given)).trans (if_pos (by simpa [or_assoc] using length))

/-- Nibbles of 2 to 16 whole bytes go on to the check test (R121 test 4). -/
theorem readBody_checked (even : (storedNibbles body).length % 2 = 0)
    (least : 2 ≤ (bytesOfNibbles (storedNibbles body)).length)
    (most : (bytesOfNibbles (storedNibbles body)).length ≤ 16) :
    readBody body = readChecked (body.contains .codingError) (bytesOfNibbles (storedNibbles body)) := by
  have given : storedNibbles body ≠ [] := by
    intro empty
    rw [empty] at least
    exact absurd least (by decide)
  exact (if_neg (by simpa using given)).trans (if_neg (by simp; omega))

/-- A body without a coding error and with a good check byte is read by its type and length. -/
theorem readBody_clean (even : (storedNibbles body).length % 2 = 0)
    (least : 2 ≤ (bytesOfNibbles (storedNibbles body)).length)
    (most : (bytesOfNibbles (storedNibbles body)).length ≤ 16) (clean : .codingError ∉ body)
    (good : (bytesOfNibbles (storedNibbles body)).getLast? =
      some (crc8 (bytesOfNibbles (storedNibbles body)).dropLast)) :
    readBody body = readMessage (bytesOfNibbles (storedNibbles body)) := by
  have unspoilt : body.contains .codingError = false := by simpa using clean
  rw [readBody_checked even least most, unspoilt, readChecked_good good]

end

/-- Settles O6: each of R121's tests is reached when those before it pass. -/
theorem malformedReasons : Obligations.MalformedReasons := by
  refine fun body => ⟨readBody_nothing, readBody_length, fun even least most =>
    ⟨fun bad => ?_, fun clean good => ⟨fun lookup settle restart => ?_, fun length => ?_⟩⟩⟩
  · rw [readBody_checked even least most]
    exact readChecked_bad (bad.imp_left fun error => by simpa using error)
  · rw [readBody_clean even least most clean good]
    exact readMessage_type lookup settle restart
  · rw [readBody_clean even least most clean good]
    exact readMessage_length length

/-! ### The messages of a port controller -/

/-- An address is the one its bytes make, bit by bit (R183). -/
theorem addressOf_addressByte (a : Address) :
    addressOf (addressByte a 0) (addressByte a 1) (addressByte a 2) (addressByte a 3) (addressByte a 4)
      (addressByte a 5) = a := by
  unfold addressOf addressByte
  ext i hi
  grind

/-- A 16-bit number is the one its bytes make, bit by bit (R183). -/
theorem word16Of_bytesOf16 (v : Word16) : word16Of ((v >>> 8).setWidth 8) (v.setWidth 8) = v := by
  unfold word16Of
  ext i hi
  grind

/-- A message closed by its check byte passes the check test (R184). -/
theorem getLast?_withCheck (bytes : List Byte) :
    (withCheck bytes).getLast? = some (crc8 (withCheck bytes).dropLast) := by
  simp [withCheck]

theorem getLast?_portMessageBytes (m : PortMessage) :
    (portMessageBytes m).getLast? = some (crc8 (portMessageBytes m).dropLast) := by
  cases m with
  | lookup => exact getLast?_withCheck _
  | settle => exact getLast?_withCheck _
  | restart => exact getLast?_withCheck _

/-- Every message has a length that R121 test 3 passes. -/
theorem length_portMessageBytes (m : PortMessage) :
    2 ≤ (portMessageBytes m).length ∧ (portMessageBytes m).length ≤ 16 := by
  cases m <;> simp [portMessageBytes, withCheck, addressBytes, bytesOf16]

theorem readMessage_portMessageBytes (m : PortMessage) : readMessage (portMessageBytes m) = .message m := by
  cases m with
  | lookup tag domain destination source =>
    refine congrArg Received.message ?_
    rw [addressOf_addressByte, addressOf_addressByte]
  | settle tag outcome byteCount =>
    exact congrArg (fun n => Received.message (.settle tag outcome n)) (word16Of_bytesOf16 byteCount)
  | restart => rfl

/-- Settles O11: the nibbles pair back into the message's bytes, which pass every test of R121. -/
theorem portMessagesReadBack : Obligations.PortMessagesReadBack := by
  intro m body carried clean
  have bytes : bytesOfNibbles (storedNibbles body) = portMessageBytes m := by
    rw [carried, bytesOfNibbles_nibblesOf]
  have even : (storedNibbles body).length % 2 = 0 := by
    rw [carried, length_nibblesOf]
    exact Nat.mul_mod_right 2 _
  obtain ⟨least, most⟩ := length_portMessageBytes m
  rw [readBody_clean even (by rwa [bytes]) (by rwa [bytes]) clean, bytes, readMessage_portMessageBytes]
  rw [bytes]
  exact getLast?_portMessageBytes m

end Sys2Proof.Machine

namespace Sys2Proof.Machine

-- One proof at a time: the whole text then compiles in few threads.
set_option Elab.async false

/-! ### A message judged with its lane's receive side open -/

/-- The part after lane `l`'s receive side has been left with a message open (R182). -/
def opened (l : LaneNo) (s : State) : State := setLane l { laneAt s l with receiveOpen := true } s

@[simp] theorem laneAt_opened (l : LaneNo) (s : State) :
    laneAt (opened l s) l = { laneAt s l with receiveOpen := true } := laneAt_setLane_same _ _ _

/-- A change of the lane just opened comes to one write of it. -/
theorem onLane_opened (l : LaneNo) (f : Lane → Lane) (s : State) :
    onLane l f (opened l s) =
      { s with lanes := put .reset s.lanes l.val (f { laneAt s l with receiveOpen := true }) } := by
  unfold onLane
  rw [laneAt_opened]
  exact setLane_setLane _ s rfl

/-- A FAULT decided on a lane just opened (R126). -/
theorem sendFaultOn_opened (r : FaultReason) (x : Lane) :
    sendFaultOn r { x with receiveOpen := true } = replied r x := by
  unfold sendFaultOn replied
  dsimp only
  split <;> rfl

/-- A command that is a message hands it to its lane's receive side. -/
theorem exec_message {c : Instr} {l : LaneNo} {op : Opening} {m : Received}
    (message : messageOf c = some (l, op, m)) (s : State) : exec c s = act (receive l op m) s := by
  cases c
  case lookup | settle | restart | malformedMessage =>
    cases message
    rfl
  all_goals exact nomatch message

section
variable {c : Instr} {l : LaneNo} {op : Opening} {m : Received} {s : State}

/-- A message with its opening mark, on a lane that is not DOWN, is judged (R121). -/
theorem exec_heard (message : messageOf c = some (l, op, m)) (heard : Heard l op s)
    (up : (laneAt s l).state ≠ .down) : exec c s = .next (judge l m (opened l s)) :=
  (exec_message message s).trans (act_receive heard up)

/-- A DOWN lane ignores every message (R117). -/
theorem exec_down (message : messageOf c = some (l, op, m)) (high : awake s)
    (down : (laneAt s l).state = .down) : exec c s = .next s := by
  rw [exec_message message, act_awake _ high]
  exact congrArg _ (if_pos down)

/-- A message for which no opening mark has arrived only leaves the next one open (R117, R182). -/
theorem exec_unopened (message : messageOf c = some (l, .shared, m)) (high : awake s)
    (up : (laneAt s l).state ≠ .down) (shut : (laneAt s l).receiveOpen = false) :
    exec c s = .next (opened l s) := by
  rw [exec_message message, act_awake _ high]
  unfold receive
  dsimp only
  rw [if_neg up, shut]
  rfl

/-- In HELD whatever is a message draws FAULT HELD (R125). -/
theorem judge_held (held : (laneAt s l).state = .held) (given : m ≠ .nothing) :
    judge l m s = onLane l (sendFaultOn .held) s := by
  unfold judge
  rw [held]
  cases m with
  | nothing => exact absurd rfl given
  | malformed r => rfl
  | message m => rfl

theorem ne_down_of_works {x : LaneState} (works : x = .waiting ∨ x = .ready) : x ≠ .down := by
  rcases works with rfl | rfl <;> decide

/-- In WAITING and READY a malformed message is a lane fault (R121, R123). -/
theorem judge_malformed {r : FaultReason}
    (works : (laneAt s l).state = .waiting ∨ (laneAt s l).state = .ready) :
    judge l (.malformed r) s = laneFault l r s := by
  unfold judge
  rcases works with waiting | ready
  · rw [waiting]
  · rw [ready]

theorem judge_waiting {m : PortMessage} (waiting : (laneAt s l).state = .waiting) :
    judge l (.message m) s = judgeWaiting l m s := by
  unfold judge
  rw [waiting]

theorem judge_ready {m : PortMessage} (ready : (laneAt s l).state = .ready) :
    judge l (.message m) s = judgeReady l m s := by
  unfold judge
  rw [ready]

/-- A message that draws a FAULT reply changes nothing but its lane's receive side and waiting messages. -/
theorem exec_replied {r : FaultReason} (message : messageOf c = some (l, op, m)) (heard : Heard l op s)
    (up : (laneAt s l).state ≠ .down)
    (reply : judge l m (opened l s) = onLane l (sendFaultOn r) (opened l s)) :
    exec c s = .next { s with lanes := put .reset s.lanes l.val (replied r (laneAt s l)) } := by
  rw [exec_heard message heard up, reply, onLane_opened, sendFaultOn_opened]

/-- In HELD whatever is a message is answered FAULT HELD and not acted on (R125). -/
theorem exec_held (message : messageOf c = some (l, op, m)) (heard : Heard l op s)
    (held : (laneAt s l).state = .held) (given : m ≠ .nothing) :
    exec c s = .next { s with lanes := put .reset s.lanes l.val (replied .held (laneAt s l)) } :=
  exec_replied message heard (by simp [held]) (judge_held (by simpa using held) given)

/-- In WAITING and READY alike a RESTART restarts the lane (R124). -/
theorem judge_restart (works : (laneAt s l).state = .waiting ∨ (laneAt s l).state = .ready) :
    judge l (.message .restart) s = onLane l restartLane s := by
  rcases works with waiting | ready
  · exact judge_waiting waiting
  · exact judge_ready ready

/-- A message in READY acts by its kind (R121 tests 8 to 10). -/
theorem exec_ready {m : PortMessage} (message : messageOf c = some (l, op, .message m)) (heard : Heard l op s)
    (ready : (laneAt s l).state = .ready) : exec c s = .next (judgeReady l m (opened l s)) := by
  rw [exec_heard message heard (by simp [ready])]
  exact congrArg _ (judge_ready (by simpa using ready))

end

/-! ### LOOKUP and the lane faults -/

theorem isOpen_eq_false {v : Tag} : isOpen v = false ↔ ∃ memo, v = .free memo := by
  cases v <;> simp [isOpen]

theorem isOpen_eq_true {v : Tag} : isOpen v = true ↔ ∀ memo, v ≠ .free memo := by
  cases v <;> simp [isOpen]

section
variable {l : LaneNo} {op : Opening} {tag domain : Byte} {dst src : Address} {s : State}

theorem judgeReady_lookup_free (free : isOpen (tagOf (laneAt s l) (tagOfByte tag)) = false) :
    judgeReady l (.lookup tag domain dst src) s = onLane l (takeLookup (tagOfByte tag) domain dst src) s :=
  if_neg (Bool.eq_false_iff.1 free)

theorem judgeReady_lookup_open (busy : isOpen (tagOf (laneAt s l) (tagOfByte tag)) = true) :
    judgeReady l (.lookup tag domain dst src) s = laneFault l .tagBusy s := if_pos busy

/-- A LOOKUP in READY on an open tag is the lane fault TAG_BUSY (R121 test 9). -/
theorem exec_lookup_busy (heard : Heard l op s) (ready : (laneAt s l).state = .ready)
    (busy : ∀ memo, tagOf (laneAt s l) (tag.setWidth 4).toFin ≠ .free memo) :
    exec (.lookup l op tag domain dst src) s = .next (faulted l .tagBusy s) := by
  rw [exec_ready rfl heard ready, judgeReady_lookup_open, opened, laneFault_opened]
  rw [laneAt_opened]
  exact isOpen_eq_true.2 busy

end

/-- Settles O4: the tag is FREE or open, and the judged lane is written once. -/
theorem lookupJudged : Obligations.LookupJudged := by
  refine fun l op tag domain dst src s heard ready => ⟨fun memo free => ?_, exec_lookup_busy heard ready⟩
  rw [exec_ready rfl heard ready, judgeReady_lookup_free, onLane_opened]
  · rfl
  · rw [laneAt_opened]
    exact isOpen_eq_false.2 ⟨memo, free⟩

/-- Settles O5: both faults are taken on the lane whose receive side the message has opened. -/
theorem laneFaultTaken : Obligations.LaneFaultTaken := by
  refine ⟨fun l op body r s heard works malformed => ?_, fun _ _ _ _ _ _ _ => exec_lookup_busy⟩
  have message : messageOf (.malformedMessage l op body) = some (l, op, .malformed r) := by
    rw [← malformed]
    rfl
  rw [exec_heard message heard (ne_down_of_works works), judge_malformed (by simpa using works), opened,
    laneFault_opened]

/-! ### SETTLE -/

section
variable {t : TagNo} {good : Bool} {byteCount : Word16} {x : Lane}

theorem takeSettle_settling {record : TagRecord} {timer : Timer}
    (settling : tagOf x t = .settling record timer) :
    takeSettle t good byteCount x =
      setTag t (.closing record) { x with queue := x.queue ++ [.settle t good byteCount] } := by
  unfold takeSettle
  rw [settling]

theorem takeSettle_late (late : tagOf x t = .free true) : takeSettle t good byteCount x = nackLate t x := by
  unfold takeSettle
  rw [late]

theorem takeSettle_unknown
    (unknown : tagOf x t = .free false ∨ tagOf x t = .queued ∨ ∃ record, tagOf x t = .closing record) :
    takeSettle t good byteCount x = nackUnknown t x := by
  unfold takeSettle
  rcases unknown with free | queued | ⟨record, closing⟩
  · rw [free]
  · rw [queued]
  · rw [closing]

end

/-- Settles O7: `takeSettle` acts by the tag, which the opening of the receive side leaves alone. -/
theorem settleJudged : Obligations.SettleJudged := by
  intro l op tag outcome byteCount s heard ready t x
  have judged {y : Lane}
      (taken : takeSettle t (isGood outcome) byteCount { x with receiveOpen := true } = y) :
      exec (.settle l op tag outcome byteCount) s =
        .next { s with lanes := put .reset s.lanes l.val y } := by
    rw [exec_ready rfl heard ready, ← taken]
    exact congrArg _ (onLane_opened l _ s)
  exact ⟨fun _ _ settling => judged (takeSettle_settling settling), fun late => judged (takeSettle_late late),
    fun unknown => judged (takeSettle_unknown unknown)⟩

/-! ### RESTART and the messages that are not acted on -/

/-- Settles O9: each state of the lane gives its one answer, whatever command brings the message. -/
theorem repliesInOtherStates : Obligations.RepliesInOtherStates := by
  refine fun c l op m s message high => ⟨exec_down message high, ?_,
    fun held heard given => exec_held message heard held given, fun waiting heard kind => ?_⟩
  · rintro up rfl shut
    exact exec_unopened message high up shut
  · have still : (laneAt (opened l s) l).state = .waiting := by simpa using waiting
    have up : (laneAt s l).state ≠ .down := by simp [waiting]
    rcases kind with ⟨_, _, _, _, rfl⟩ | ⟨_, _, _, rfl⟩
    · exact exec_replied message heard up (judge_waiting still)
    · exact exec_replied message heard up (judge_waiting still)

/-- Settles O8: HELD and DOWN are the answers that every message draws there. -/
theorem restartJudged : Obligations.RestartJudged := by
  refine fun l op s => ⟨fun heard works => ?_, fun heard held => ?_, fun high down => ?_⟩
  · rw [exec_heard rfl heard (ne_down_of_works works), judge_restart (by simpa using works), onLane_opened]
    rfl
  · exact exec_held rfl heard held nofun
  · exact exec_down rfl high down

/-! ### The transmit side -/

section
variable {x : Lane}

theorem transmitNext_waiting {m : LaneMessage} {rest : List LaneMessage} (waits : x.waiting = m :: rest) :
    transmitNext x = { x with transmitting := some m, waiting := rest } := by
  unfold transmitNext
  rw [waits]

theorem transmitNext_empty (empty : x.waiting = []) : transmitNext x = { x with transmitting := none } := by
  unfold transmitNext
  split
  · rfl
  · next waits => exact nomatch empty.symm.trans waits

variable {l : LaneNo} {s : State}

theorem transmitLines_sending {m : LaneMessage} (high : awake s) (sends : (laneAt s l).transmitting = some m) :
    transmitLines s l = laneMessageFrame m := by
  unfold transmitLines
  rw [high, sends]
  rfl

theorem transmitLines_idle (high : awake s) (idle : (laneAt s l).transmitting = none) :
    transmitLines s l = [linkIdle] := by
  unfold transmitLines
  rw [high, idle]
  rfl

end

/-- Settles O10: the lane goes on by its waiting list, and its lines follow what it transmits. -/
theorem transmitInOrder : Obligations.TransmitInOrder := by
  intro l s high
  have sent {y : Lane} (next : transmitNext (laneAt s l) = y) :
      exec (.transmitMessage l) s = .next { s with lanes := put .reset s.lanes l.val y } := by
    rw [← next]
    exact act_awake _ high
  exact ⟨fun _ _ waits => sent (transmitNext_waiting waits), fun empty => sent (transmitNext_empty empty),
    fun _ sends => transmitLines_sending high sends, transmitLines_idle high⟩

end Sys2Proof.Machine

namespace Sys2Proof.Machine

-- One proof at a time: the whole text then compiles in few threads.
set_option Elab.async false

/-! ### The RUNNING slot -/

theorem isRunning_iff {x : Slot} : isRunning x = true ↔ ∃ b, x = .running b := by
  cases x <;> simp [isRunning]

/-- The slot found RUNNING holds its block (R142). -/
theorem slotAt_of_runningSlot {n : SlotNo} {b : Block} {s : State} (h : runningSlot s = some (n, b)) :
    slotAt s n = .running b := by
  obtain ⟨k, -, found⟩ := List.exists_of_findSome?_eq_some h
  split at found
  · next slot =>
    cases found
    exact slot
  · cases found

/-- With no slot found RUNNING, none is (R142). -/
theorem not_running_of_runningSlot {s : State} (h : runningSlot s = none) (k : SlotNo) :
    isRunning (slotAt s k) = false := by
  have passed := List.findSome?_eq_none_iff.1 h k (List.mem_finRange k)
  split at passed
  · cases passed
  · next other => exact Bool.eq_false_iff.2 fun running => (isRunning_iff.1 running).elim other

theorem slotAt_of_runningCode {c : Byte} {n : SlotNo} {b : Block} {s : State}
    (h : runningCode c s = some (n, b)) : slotAt s n = .running b := by
  unfold runningCode at h
  split at h
  · cases h
  · next running =>
    split at h
    · cases h
      exact slotAt_of_runningSlot running
    · cases h

/-! ### One slot written -/

/-- One slot changes to `x`: the submission order changes by that slot alone, and a slot that becomes RUNNING
is the only one (R140, R142). -/
theorem SlotsOrdered.of_written {s t : State} (h : SlotsOrdered s) {n : SlotNo} (x : Slot)
    (slots : t.slots = put .empty s.slots n.val x)
    (order : ∀ k, k ∈ t.order ↔ if k = n then isPending x = true else k ∈ s.order)
    (once : t.order.Nodup)
    (alone : isRunning x = true → ∀ k, isRunning (slotAt s k) = false) : SlotsOrdered t := by
  have slot (k : SlotNo) : slotAt t k = if k = n then x else slotAt s k := by
    rw [← slotAt_setSlot, slotAt, slots]
    rfl
  refine ⟨fun k => ?_, once, fun k m hk hm => ?_⟩
  · rw [order, slot]
    split
    · exact Iff.rfl
    · exact h.pending k
  · rw [slot] at hk hm
    split at hk <;> split at hm
    · next ek em => exact ek.trans em.symm
    · exact nomatch (alone hk m).symm.trans hm
    · exact nomatch (alone hm k).symm.trans hk
    · exact h.oneRunning k m hk hm

/-- A slot that is PENDING no longer leaves the submission order (R140). -/
theorem SlotsOrdered.of_left {s t : State} (h : SlotsOrdered s) {n : SlotNo} (x : Slot)
    (slots : t.slots = put .empty s.slots n.val x)
    (order : ∀ k, k ∈ t.order ↔ k ∈ s.order ∧ k ≠ n) (once : t.order.Nodup)
    (left : isPending x = false)
    (alone : isRunning x = true → ∀ k, isRunning (slotAt s k) = false) : SlotsOrdered t := by
  refine h.of_written x slots (fun k => ?_) once alone
  rw [order, left]
  split
  · next own => simp [own]
  · next other => simp [other]

/-- A slot that was not PENDING is written to be neither PENDING nor RUNNING, and the order stays (R140). -/
theorem SlotsOrdered.of_ended {s t : State} (h : SlotsOrdered s) {n : SlotNo} (x : Slot)
    (slots : t.slots = put .empty s.slots n.val x) (order : t.order = s.order)
    (was : isPending (slotAt s n) = false) (left : isPending x = false) (ended : isRunning x = false) :
    SlotsOrdered t := by
  refine h.of_left x slots (fun k => ?_) (order ▸ h.once) left fun running => nomatch ended.symm.trans running
  rw [order]
  refine ⟨fun mem => ⟨mem, fun own => ?_⟩, And.left⟩
  exact nomatch was.symm.trans ((h.pending n).1 (own ▸ mem))

/-- A completion ends its RUNNING slot (R143). -/
theorem SlotsOrdered.complete {s : State} (h : SlotsOrdered s) {n : SlotNo} {b : Block}
    (running : slotAt s n = .running b) (b' : Block) (st : Status) (values : List Word16) :
    SlotsOrdered (complete n b' st values s) :=
  h.of_ended (.done b' ⟨codeOf b', st, values⟩) rfl rfl (by rw [running]; rfl) rfl rfl

theorem slotsOrdered_reset : SlotsOrdered .reset := ⟨fun _ => ⟨nofun, nofun⟩, .nil, nofun⟩

/-! ### Starting, SUBMIT, RETIRE and ABORT -/

/-- The head of the order starts: it leaves the order and is RUNNING alone, or DONE (R142). -/
theorem slotsOrdered_commandStart {s : State} (h : SlotsOrdered s) : SlotsOrdered (commandStart s) := by
  unfold commandStart
  split
  · next n rest none order =>
    split
    · have nodup := h.once
      rw [order, List.nodup_cons] at nodup
      have left (k : SlotNo) : k ∈ rest ↔ k ∈ s.order ∧ k ≠ n := by
        rw [order, List.mem_cons]
        refine ⟨fun mem => ⟨.inr mem, fun own => nodup.1 (own ▸ mem)⟩, fun mem => mem.1.resolve_left mem.2⟩
      have started {t : State} (x : Slot) (slots : t.slots = put .empty s.slots n.val x)
          (order : t.order = rest) (not : isPending x = false) : SlotsOrdered t :=
        h.of_left x slots (order ▸ left) (order ▸ nodup.2) not fun _ => not_running_of_runningSlot none
      unfold startSlot
      split
      · exact started (.running _) rfl rfl rfl
      · split
        · exact started (.running _) rfl rfl rfl
        · exact started (.done _ _) rfl rfl rfl
    · exact h
  · exact h

/-- SUBMIT makes an EMPTY slot PENDING, last in the order (R141). -/
theorem slotsOrdered_submitCommand {s : State} (h : SlotsOrdered s) : SlotsOrdered (submitCommand s) := by
  unfold submitCommand
  split
  · exact { h with }
  · next n rest found =>
    have empty : slotAt s n = .empty := by
      have mem : n ∈ slotsWhere (· == .empty) s := found ▸ List.mem_cons_self
      exact eq_of_beq (List.mem_filter.1 mem).2
    have new : n ∉ s.order := fun mem => by
      have pending := (h.pending n).1 mem
      rw [empty] at pending
      cases pending
    refine h.of_written (.pending s.submission) rfl (fun k => ?_) ?_ (fun running => nomatch running)
    · split
      · next own => simp [own, isPending]
      · next other => simp [other]
    · exact List.nodup_append.2 ⟨h.once, List.nodup_singleton n,
        fun k mem m last own => new (List.mem_singleton.1 last ▸ own ▸ mem)⟩

/-- RETIRE empties a DONE slot (R144). -/
theorem slotsOrdered_writeRetire {s : State} (h : SlotsOrdered s) (value : Word16) :
    SlotsOrdered (writeRetire value s) := by
  unfold writeRetire retireSlot
  split
  · exact h
  · next n _ =>
    split
    · next done => exact h.of_ended .empty rfl rfl (by rw [done]; rfl) rfl rfl
    · exact h

/-- ABORT takes a PENDING slot from the order and ends a RUNNING walk between its steps (R145). -/
theorem slotsOrdered_abortSlot {s : State} (h : SlotsOrdered s) (n : SlotNo) :
    SlotsOrdered (abortSlot n s) := by
  unfold abortSlot
  split
  · refine h.of_left (.done _ _) rfl (fun k => ?_) (h.once.filter _) rfl (fun running => nomatch running)
    exact List.mem_filter.trans (and_congr_right fun _ => bne_iff_ne)
  · next running =>
    split
    · split
      · unfold abortWalk
        split
        · exact { h with }
        · exact h.complete running _ _ _
      · exact h
    · exact h
  · exact h
  · exact h

theorem slotsOrdered_writeAbort {s : State} (h : SlotsOrdered s) (value : Word16) :
    SlotsOrdered (writeAbort value s) := by
  unfold writeAbort
  split
  · exact h
  · exact slotsOrdered_abortSlot h _

end Sys2Proof.Machine

namespace Sys2Proof.Machine

-- One proof at a time: the whole text then compiles in few threads.
set_option Elab.async false

/-! ### What leaves the slots alone -/

/-- The slots and the submission order stand alike. -/
structure SameSlots (s t : State) : Prop where
  slots : t.slots = s.slots := by rfl
  order : t.order = s.order := by rfl

theorem SameSlots.refl (s : State) : SameSlots s s := {}

theorem SameSlots.trans {s t u : State} (h : SameSlots s t) (g : SameSlots t u) : SameSlots s u :=
  ⟨g.slots.trans h.slots, g.order.trans h.order⟩

/-- An equation between states that keep the slots of both sides. -/
theorem SameSlots.of_frame {s t u v : State} (frame : u = v) (left : SameSlots u t := by exact {})
    (right : SameSlots s v := by exact {}) : SameSlots s t := (frame ▸ right).trans left

theorem SameSlots.slotAt {s t : State} (h : SameSlots s t) (n : SlotNo) : slotAt t n = slotAt s n := by
  rw [Machine.slotAt, h.slots, Machine.slotAt]

theorem SameSlots.ordered {s t : State} (h : SameSlots s t) (ordered : SlotsOrdered s) : SlotsOrdered t where
  pending n := by rw [h.order, h.slotAt]; exact ordered.pending n
  once := h.order ▸ ordered.once
  oneRunning n m := by rw [h.slotAt, h.slotAt]; exact ordered.oneRunning n m

theorem sameSlots_foldl {α : Type} {f : State → α → State} (h : ∀ s a, SameSlots s (f s a)) (l : List α)
    (s : State) : SameSlots s (l.foldl f s) := by
  induction l generalizing s with
  | nil => exact .refl s
  | cons a rest ih => exact (h s a).trans (ih _)

theorem sameSlots_onLane (l : LaneNo) (f : Lane → Lane) (s : State) : SameSlots s (onLane l f s) := {}

theorem sameSlots_onEveryLane (f : Lane → Lane) (s : State) : SameSlots s (onEveryLane f s) :=
  sameSlots_foldl (fun s l => sameSlots_onLane l f s) _ s

theorem sameSlots_raiseSpillHigh (before : Occupancy) (s : State) :
    SameSlots s (raiseSpillHigh before s) := by
  rw [raiseSpillHigh_eq]
  exact {}

theorem sameSlots_bringUpEntry (ref : Nat) (s : State) : SameSlots s (bringUpEntry ref s) := by
  have frame := bringUpEntry_frame ref s
  exact .of_frame frame

theorem sameSlots_retire (ref : Nat) (c : RetireCause) (s : State) : SameSlots s (retire ref c s) := by
  cases old : (entryAt s ref).occupant with
  | none =>
    rw [retire_free c old]
    exact .refl s
  | some o =>
    have frame := retire_frame c old
    exact .of_frame frame

theorem sameSlots_requestSet (q : SetRequest) (ref : Nat) (s : State) :
    SameSlots s (requestSet q ref s).1 := by
  unfold requestSet attachSet
  split
  · exact .refl s
  · dsimp only
    split <;> exact {}

/-! ### The work of the host's commands -/

theorem sameSlots_insertWork (b : Block) (s : State) : SameSlots s (insertWork b s).1 := by
  unfold insertWork
  split
  · exact .refl s
  · split
    · exact .refl s
    · split
      · exact .refl s
      · split
        · exact .refl s
        · unfold insertAtRef
          rw [insertCounter_allocate]
          exact .of_frame (insert_frame _ _ _ s)

theorem sameSlots_updateWork (b : Block) (s : State) : SameSlots s (updateWork b s).1 := by
  unfold updateWork
  split
  · split
    · exact .refl s
    · split
      · exact .refl s
      · split <;> exact {}
  · exact .refl s

theorem sameSlots_removeWork (b : Block) (s : State) : SameSlots s (removeWork b s).1 := by
  unfold removeWork
  split
  · exact .refl s
  · split
    · exact sameSlots_retire _ _ s
    · exact .refl s

theorem sameSlots_removeKeyWork (b : Block) (s : State) : SameSlots s (removeKeyWork b s).1 := by
  unfold removeKeyWork
  split
  · exact .refl s
  · split
    · exact .refl s
    · exact sameSlots_retire _ _ s

theorem sameSlots_findWork (b : Block) (s : State) : SameSlots s (findWork b s).1 := by
  unfold findWork
  split
  · exact .refl s
  · split
    · exact .refl s
    · exact sameSlots_bringUpEntry _ s

theorem sameSlots_readWork (b : Block) (s : State) : SameSlots s (readWork b s).1 := by
  unfold readWork
  split
  · exact .refl s
  · exact sameSlots_bringUpEntry _ s

theorem sameSlots_attachWork (b : Block) (s : State) : SameSlots s (attachWork b s).1 := by
  unfold attachWork
  split
  · next p q _ _ =>
    split
    · exact .refl s
    · split
      · exact .refl s
      · have request := sameSlots_requestSet q p.ref s
        split
        · next e => rw [e] at request; exact request
        · exact .refl s
  · exact .refl s

theorem sameSlots_detachWork (b : Block) (s : State) : SameSlots s (detachWork b s).1 := by
  unfold detachWork dropSetField
  split
  · exact .refl s
  · split
    · exact .refl s
    · split
      · exact .refl s
      · split <;> exact {}

theorem sameSlots_setHashWork (b : Block) (s : State) : SameSlots s (setHashWork b s).1 := by
  unfold setHashWork
  split
  · exact .refl s
  · split <;> exact {}

theorem sameSlots_setSpillMarkWork (b : Block) (s : State) : SameSlots s (setSpillMarkWork b s).1 := by
  unfold setSpillMarkWork
  split <;> exact {}

theorem sameSlots_setDomainWork (b : Block) (s : State) : SameSlots s (setDomainWork b s).1 := by
  unfold setDomainWork
  split
  · exact .refl s
  · split <;> exact {}

theorem sameSlots_readDomainWork (b : Block) (s : State) : SameSlots s (readDomainWork b s).1 := by
  unfold readDomainWork
  split <;> exact .refl s

theorem sameSlots_setProfileWork (b : Block) (s : State) : SameSlots s (setProfileWork b s).1 := by
  unfold setProfileWork
  split
  · exact .refl s
  · split <;> exact {}

theorem sameSlots_readProfileWork (b : Block) (s : State) : SameSlots s (readProfileWork b s).1 := by
  unfold readProfileWork
  split <;> exact .refl s

theorem sameSlots_readCountersWork (b : Block) (s : State) : SameSlots s (readCountersWork b s).1 := by
  unfold readCountersWork
  split
  · exact .refl s
  · dsimp only
    split <;> exact {}

theorem sameSlots_reclaimWork (b : Block) (s : State) : SameSlots s (reclaimWork b s).1 := by
  unfold reclaimWork
  split
  · exact .refl s
  · split <;> exact {}

theorem sameSlots_setPoolWork (b : Block) (s : State) : SameSlots s (setPoolWork b s).1 := by
  unfold setPoolWork
  split
  · exact .refl s
  · split <;> exact {}

theorem sameSlots_setAgingWork (b : Block) (s : State) : SameSlots s (setAgingWork b s).1 := by
  unfold setAgingWork
  split <;> exact {}

theorem sameSlots_sweepNowWork (b : Block) (s : State) : SameSlots s (sweepNowWork b s).1 := by
  unfold sweepNowWork
  split <;> exact {}

theorem sameSlots_laneEnableWork (b : Block) (s : State) : SameSlots s (laneEnableWork b s).1 := by
  unfold laneEnableWork
  split
  · exact .refl s
  · split
    · exact .refl s
    · split <;> exact {}

theorem sameSlots_laneSetWork (b : Block) (s : State) : SameSlots s (laneSetWork b s).1 := by
  unfold laneSetWork
  split
  · exact .refl s
  · split <;> exact {}

theorem sameSlots_laneDisableWork (b : Block) (s : State) : SameSlots s (laneDisableWork b s).1 := by
  unfold laneDisableWork
  split <;> exact {}

theorem sameSlots_laneReleaseWork (b : Block) (s : State) : SameSlots s (laneReleaseWork b s).1 := by
  unfold laneReleaseWork
  split
  · exact .refl s
  · split <;> exact {}

theorem sameSlots_readLaneStatsWork (b : Block) (s : State) : SameSlots s (readLaneStatsWork b s).1 := by
  unfold readLaneStatsWork
  split
  · exact .refl s
  · dsimp only
    split <;> exact {}

theorem sameSlots_pauseCancelWork (b : Block) (s : State) : SameSlots s (pauseCancelWork b s).1 := by
  unfold pauseCancelWork
  split <;> exact {}

theorem sameSlots_grantTableStats (s : State) : SameSlots s (grantTableStats s) := by
  unfold grantTableStats
  dsimp only
  split
  · split <;> exact {}
  · exact {}

/-- A FLUSH step changes the table alone (R165). -/
theorem sameSlots_flushStep (q : Selector) (w : Walk) (s : State) : SameSlots s (flushStep q w s).1 := by
  have frame := (flushed_foldl q s (nodup_stepRefs w.cursor)).stepped.frame
  exact .of_frame frame

/-! ### The lanes' happenings, the ticks and the lanes' operations -/

theorem sameSlots_judge (l : LaneNo) (r : Received) (s : State) : SameSlots s (judge l r s) := by
  unfold judge
  split
  · exact .refl s
  · exact .refl s
  · exact {}
  · exact {}
  · exact {}
  · unfold judgeWaiting
    split <;> exact {}
  · unfold judgeReady
    split
    · exact {}
    · split <;> exact {}
    · exact {}

theorem sameSlots_receive (l : LaneNo) (opening : Opening) (r : Received) (s : State) :
    SameSlots s (receive l opening r s) := by
  have heard : SameSlots s (setLane l { laneAt s l with receiveOpen := true } s) := {}
  unfold receive
  dsimp only
  split
  · exact .refl s
  · split
    · exact heard
    · exact heard.trans (sameSlots_judge _ _ _)

theorem sameSlots_ageTick (s : State) : SameSlots s (ageTick s) := by
  unfold ageTick
  dsimp only
  split <;> exact {}

theorem sameSlots_microsecondTick (s : State) : SameSlots s (microsecondTick s) :=
  .trans {} (sameSlots_onEveryLane _ _)

theorem sameSlots_millisecondTick (s : State) : SameSlots s (millisecondTick s) :=
  .trans {} (sameSlots_onEveryLane _ _)

theorem sameSlots_finishSweep (s : State) : SameSlots s (finishSweep s) := by
  have frame := (swept_foldl s (nodup_stepRefs s.sweepCursor)).stepped.frame
  have visited : SameSlots s (visitStep s) := .of_frame frame
  have advanced : SameSlots s (advanceSweep (visitStep s)) := by
    rw [advanceSweep_frame]
    exact visited.trans {}
  unfold finishSweep
  split
  · exact advanced.trans {}
  · exact .refl s

theorem sameSlots_grantResolve (s : State) : SameSlots s (grantResolve s) := by
  unfold grantResolve
  split <;> exact {}

theorem sameSlots_performResolve (s : State) : SameSlots s (performResolve s) := by
  cases engine : s.engine with
  | resolving i =>
    rw [performResolve_eq engine]
    exact .of_frame (keeps_resolveStages (i := i) (s := s)).frame
  | _ =>
    rw [performResolve, engine]
    exact .refl s

theorem sameSlots_finishResolve (s : State) : SameSlots s (finishResolve s) := by
  unfold finishResolve
  refine (sameSlots_performResolve s).trans ?_
  unfold closeResolve
  split
  · exact .trans {} (sameSlots_raiseSpillHigh _ _)
  · exact .refl _

theorem sameSlots_grantSettle (s : State) : SameSlots s (grantSettle s) := by
  unfold grantSettle
  split <;> exact {}

theorem sameSlots_confirmOrReject (i : SettleInput) (ref : Nat) (s : State) :
    SameSlots s (confirmOrReject i ref s) := by
  unfold confirmOrReject
  split
  · exact .refl s
  · split
    · split
      · exact {}
      · split
        · exact sameSlots_retire _ _ s
        · exact .refl s
    · exact .refl s

theorem sameSlots_settleSource (i : SettleInput) (ref : Nat) (s : State) :
    SameSlots s (settleSource i ref s) := by
  have charge := chargeEntry_frame ref (sourceCharge i) s
  have debit := debitEntry_frame ref i.byteCount.toNat (chargeEntry ref (sourceCharge i) s)
  exact (SameSlots.of_frame charge).trans ((SameSlots.of_frame debit).trans (sameSlots_confirmOrReject _ _ _))

theorem sameSlots_sourceDone (i : SettleInput) (s : State) : SameSlots s (sourceDone i s) := by
  unfold sourceDone settlePart
  split
  · exact .refl s
  · split
    · exact sameSlots_settleSource _ _ s
    · exact .refl s

theorem sameSlots_performSettle (s : State) : SameSlots s (performSettle s) := by
  cases engine : s.engine with
  | settling i =>
    obtain ⟨lanes, parts⟩ := settleWork_parts i s
    rw [performSettle_eq engine, parts]
    exact (sameSlots_sourceDone i s).trans (.of_frame (partsDone_frame i s))
  | _ =>
    rw [performSettle, engine]
    exact .refl s

theorem sameSlots_finishSettle (s : State) : SameSlots s (finishSettle s) := by
  unfold finishSettle
  refine (sameSlots_performSettle s).trans ?_
  unfold closeSettle
  split
  · exact {}
  · exact .refl _

end Sys2Proof.Machine

namespace Sys2Proof.Machine

-- One proof at a time: the whole text then compiles in few threads.
set_option Elab.async false

/-! ### Every command keeps the submission order and the one RUNNING slot -/

/-- A RUNNING command that its work completes leaves the slots ordered (R143). -/
theorem slotsOrdered_performRunning {c : Byte} {work : Block → State → Performed}
    (same : ∀ b s, SameSlots s (work b s).1) {s : State} (h : SlotsOrdered s) :
    SlotsOrdered (performRunning c work s) := by
  unfold performRunning
  split
  · exact h
  · next n b running =>
    have slot := ((same b s).slotAt n).trans (slotAt_of_runningCode running)
    exact ((same b s).ordered h).complete slot _ _ _

/-- What a command answers, when its change leaves the slots ordered (R181). -/
theorem slotsOrdered_of_act {f : State → State} {s t : State} (h : SlotsOrdered s)
    (ordered : SlotsOrdered s → SlotsOrdered (f s)) (e : act f s = .next t) : SlotsOrdered t := by
  unfold act at e
  cases e
  split
  · exact h
  · exact ordered h

theorem slotsOrdered_of_directCommand {c : Byte} {work : Block → State → Performed} {s t : State}
    (h : SlotsOrdered s) (same : ∀ b s, SameSlots s (work b s).1) (e : directCommand c work s = .next t) :
    SlotsOrdered t := slotsOrdered_of_act h (slotsOrdered_performRunning same) e

theorem slotsOrdered_of_operationParts {offered : State → Bool} {grant finish : State → State}
    {part : OpPart} {s t : State} (h : SlotsOrdered s) (granted : ∀ s, SameSlots s (grant s))
    (finished : ∀ s, SlotsOrdered s → SlotsOrdered (finish s))
    (e : operationParts offered grant finish part s = .next t) : SlotsOrdered t := by
  have grants := (granted s).ordered h
  cases part with
  | whole =>
    refine slotsOrdered_of_act h (fun h => ?_) e
    split
    · exact finished _ grants
    · exact h
  | grant =>
    refine slotsOrdered_of_act h (fun h => ?_) e
    split
    · exact grants
    · exact h
  | finish => exact slotsOrdered_of_act h (finished s) e

theorem slotsOrdered_of_commandOperation {c : Byte} {work : State → State} {part : OpPart} {s t : State}
    (h : SlotsOrdered s) (worked : ∀ s, SlotsOrdered s → SlotsOrdered (work s))
    (e : commandOperation c work part s = .next t) : SlotsOrdered t := by
  refine slotsOrdered_of_operationParts h (fun _ => {}) (fun s h => ?_) e
  unfold finishCommand
  split
  · exact worked _ { h with }
  · exact h

theorem slotsOrdered_of_tableCommand {c : Byte} {work : Block → State → Performed} {part : OpPart}
    {s t : State} (h : SlotsOrdered s) (same : ∀ b s, SameSlots s (work b s).1)
    (e : tableCommand c work part s = .next t) : SlotsOrdered t :=
  slotsOrdered_of_commandOperation h (fun _ => slotsOrdered_performRunning same) e

/-- A READ_TABLE_STATS in progress ends its RUNNING slot (R19). -/
theorem slotsOrdered_finishTableStats {s : State} (h : SlotsOrdered s) :
    SlotsOrdered (finishTableStats s) := by
  unfold finishTableStats
  split
  · next running =>
    exact SlotsOrdered.complete (s := { s with engine := .idle }) { h with }
      (slotAt_of_runningCode running) _ _ _
  · exact h

/-- A walk's step leaves its slot RUNNING or ends it (R145, R169). -/
theorem slotsOrdered_walkWork {c : Byte} {step : Selector → Walk → State → StepFound} {atEnd : Status}
    (same : ∀ q w s, SameSlots s (step q w s).1) {s : State} (h : SlotsOrdered s) :
    SlotsOrdered (walkWork c step atEnd s) := by
  unfold walkWork
  split
  · next n b w running _ =>
    have slot := slotAt_of_runningCode running
    split
    · exact h.complete slot _ _ _
    · next q _ =>
      have ordered := (same q w s).ordered h
      have slot' := ((same q w s).slotAt n).trans slot
      unfold afterStep
      dsimp only
      split
      · exact ordered.complete slot' _ _ _
      · split
        · exact ordered.complete slot' _ _ _
        · split
          · exact ordered.complete slot' _ _ _
          · exact { ordered with }
  · exact h

theorem slotsOrdered_resolve {part : LaneOpPart} {s t : State} (h : SlotsOrdered s)
    (e : execResolve part s = .next t) : SlotsOrdered t := by
  cases part with
  | whole =>
    refine slotsOrdered_of_act h (SameSlots.ordered ?_) e
    split
    · exact (sameSlots_grantResolve s).trans (sameSlots_finishResolve _)
    · exact .refl s
  | grant => exact slotsOrdered_of_act h (sameSlots_grantResolve s).ordered e
  | perform => exact slotsOrdered_of_act h (sameSlots_performResolve s).ordered e
  | finish => exact slotsOrdered_of_act h (sameSlots_finishResolve s).ordered e

theorem slotsOrdered_settleOperation {part : LaneOpPart} {s t : State} (h : SlotsOrdered s)
    (e : execSettleOperation part s = .next t) : SlotsOrdered t := by
  cases part with
  | whole =>
    refine slotsOrdered_of_act h (SameSlots.ordered ?_) e
    split
    · exact (sameSlots_grantSettle s).trans (sameSlots_finishSettle _)
    · exact .refl s
  | grant => exact slotsOrdered_of_act h (sameSlots_grantSettle s).ordered e
  | perform => exact slotsOrdered_of_act h (sameSlots_performSettle s).ordered e
  | finish => exact slotsOrdered_of_act h (sameSlots_finishSettle s).ordered e

/-- After device reset every slot is EMPTY and the order empty (R148, R181). -/
theorem slotsOrdered_deviceReset (s : State) (low : Bool) :
    SlotsOrdered { deviceReset s with resetLow := low } :=
  SameSlots.ordered (s := .reset) {} slotsOrdered_reset

theorem slotsOrdered_writeReset {s : State} (h : SlotsOrdered s) (value : Word16) :
    SlotsOrdered (writeReset value s) := by
  unfold writeReset
  split
  · exact slotsOrdered_deviceReset s false
  · exact h

theorem sameSlots_writeDivider (value : Word16) (s : State) : SameSlots s (writeDivider value s) := by
  unfold writeDivider
  split <;> exact {}

theorem slotsOrdered_windowWrite {s : State} (h : SlotsOrdered s) (address : BitVec 7) (value : Word16) :
    SlotsOrdered (windowWrite address value s) := by
  unfold windowWrite
  split
  · exact slotsOrdered_submitCommand h
  · exact slotsOrdered_writeRetire h _
  · exact slotsOrdered_writeAbort h _
  · exact { h with }
  · exact { h with }
  · exact (sameSlots_writeDivider _ s).ordered h
  · exact slotsOrdered_writeReset h _
  · split
    · exact { h with }
    · exact h

theorem slotsOrdered_exec {c : Instr} {s t : State} (h : SlotsOrdered s) (e : exec c s = .next t) :
    SlotsOrdered t := by
  cases c with
  | lookup => exact slotsOrdered_of_act h (sameSlots_receive _ _ _ s).ordered e
  | settle => exact slotsOrdered_of_act h (sameSlots_receive _ _ _ s).ordered e
  | restart => exact slotsOrdered_of_act h (sameSlots_receive _ _ _ s).ordered e
  | malformedMessage => exact slotsOrdered_of_act h (sameSlots_receive _ _ _ s).ordered e
  | transmitMessage => exact slotsOrdered_of_act h (sameSlots_onLane _ _ s).ordered e
  | resolve => exact slotsOrdered_resolve h e
  | settleOperation => exact slotsOrdered_settleOperation h e
  | settleTimeout => exact slotsOrdered_of_act h (sameSlots_onLane _ _ s).ordered e
  | ageTick =>
    refine slotsOrdered_of_act h (SameSlots.ordered ?_) e
    split
    · exact sameSlots_ageTick s
    · exact .refl s
  | sweepStep =>
    exact slotsOrdered_of_operationParts h (fun _ => {}) (fun s => (sameSlots_finishSweep s).ordered) e
  | pauseExpiry => exact slotsOrdered_of_act h (sameSlots_onLane _ _ s).ordered e
  | microsecondTick =>
    refine slotsOrdered_of_act h (SameSlots.ordered ?_) e
    split
    · exact sameSlots_microsecondTick s
    · exact .refl s
  | millisecondTick =>
    refine slotsOrdered_of_act h (SameSlots.ordered ?_) e
    split
    · exact sameSlots_millisecondTick s
    · exact .refl s
  | commandStart => exact slotsOrdered_of_act h slotsOrdered_commandStart e
  | insert => exact slotsOrdered_of_tableCommand h sameSlots_insertWork e
  | update => exact slotsOrdered_of_tableCommand h sameSlots_updateWork e
  | remove => exact slotsOrdered_of_tableCommand h sameSlots_removeWork e
  | removeKey => exact slotsOrdered_of_tableCommand h sameSlots_removeKeyWork e
  | find => exact slotsOrdered_of_tableCommand h sameSlots_findWork e
  | read => exact slotsOrdered_of_tableCommand h sameSlots_readWork e
  | attach => exact slotsOrdered_of_tableCommand h sameSlots_attachWork e
  | detach => exact slotsOrdered_of_tableCommand h sameSlots_detachWork e
  | setHash => exact slotsOrdered_of_tableCommand h sameSlots_setHashWork e
  | setSpillMark => exact slotsOrdered_of_tableCommand h sameSlots_setSpillMarkWork e
  | readTableStats =>
    exact slotsOrdered_of_operationParts h sameSlots_grantTableStats
      (fun _ => slotsOrdered_finishTableStats) e
  | flush =>
    exact slotsOrdered_of_commandOperation h (fun _ => slotsOrdered_walkWork sameSlots_flushStep) e
  | count =>
    exact slotsOrdered_of_commandOperation h (fun _ => slotsOrdered_walkWork fun _ _ => .refl) e
  | search =>
    exact slotsOrdered_of_commandOperation h (fun _ => slotsOrdered_walkWork fun _ _ => .refl) e
  | setDomain => exact slotsOrdered_of_directCommand h sameSlots_setDomainWork e
  | readDomain => exact slotsOrdered_of_directCommand h sameSlots_readDomainWork e
  | setProfile => exact slotsOrdered_of_directCommand h sameSlots_setProfileWork e
  | readProfile => exact slotsOrdered_of_directCommand h sameSlots_readProfileWork e
  | readCounters => exact slotsOrdered_of_directCommand h sameSlots_readCountersWork e
  | reclaim => exact slotsOrdered_of_directCommand h sameSlots_reclaimWork e
  | setPool => exact slotsOrdered_of_directCommand h sameSlots_setPoolWork e
  | setAging => exact slotsOrdered_of_directCommand h sameSlots_setAgingWork e
  | sweepNow => exact slotsOrdered_of_directCommand h sameSlots_sweepNowWork e
  | laneEnable => exact slotsOrdered_of_directCommand h sameSlots_laneEnableWork e
  | laneSet => exact slotsOrdered_of_directCommand h sameSlots_laneSetWork e
  | laneDisable => exact slotsOrdered_of_directCommand h sameSlots_laneDisableWork e
  | laneRelease => exact slotsOrdered_of_directCommand h sameSlots_laneReleaseWork e
  | readLaneStats => exact slotsOrdered_of_directCommand h sameSlots_readLaneStatsWork e
  | pauseCancel => exact slotsOrdered_of_directCommand h sameSlots_pauseCancelWork e
  | submit => exact slotsOrdered_of_act h slotsOrdered_submitCommand e
  | retire => exact slotsOrdered_of_act h (slotsOrdered_writeRetire · _) e
  | abort => exact slotsOrdered_of_act h (slotsOrdered_writeAbort · _) e
  | interruptPending => exact slotsOrdered_of_act h (SameSlots.ordered {}) e
  | interruptEnable => exact slotsOrdered_of_act h (SameSlots.ordered {}) e
  | timebaseDivider => exact slotsOrdered_of_act h (sameSlots_writeDivider _ s).ordered e
  | millisecondCounterLowRead => exact slotsOrdered_of_act h (SameSlots.ordered {}) e
  | resetWord => exact slotsOrdered_of_act h (slotsOrdered_writeReset · _) e
  | resetPin =>
    cases e
    exact slotsOrdered_deviceReset s true
  | resetPinRelease =>
    cases e
    exact { h with }
  | registerWrite => exact slotsOrdered_of_act h (slotsOrdered_windowWrite · _ _) e

/-- Settles O60: each command leaves the slots and the order alone, or moves one slot between its states. -/
theorem stepKeepsSlots : Obligations.StepKeepsSlots := by
  intro s t h e
  unfold step at e
  split at e
  · cases e
    exact h
  · exact slotsOrdered_exec (SameSlots.ordered {} h) e

end Sys2Proof.Machine

namespace Sys2Proof.Machine

-- One proof at a time: the whole text then compiles in few threads.
set_option Elab.async false

/-! ### The start of a command -/

/-- What starting a slot comes to, with no slot RUNNING and its number at the head of the order (R142). -/
theorem exec_commandStart {n : SlotNo} {rest : List SlotNo} {b : Block} {s : State} (high : awake s)
    (idle : runningSlot s = none) (head : s.order = n :: rest) (pending : slotAt s n = .pending b) :
    exec .commandStart s = .next (startSlot n b { s with order := rest }) := by
  refine (act_awake commandStart high).trans (congrArg _ ?_)
  unfold commandStart
  rw [idle, head]
  dsimp only
  rw [pending]

/-- A block's own command starts (R142). -/
theorem startSlot_direct {n : SlotNo} {b : Block} (s : State) (direct : isDirectCode (codeOf b) = true)
    (other : isTableCode (codeOf b) = false) : startSlot n b s = setSlot n (.running b) s := by
  unfold startSlot
  rw [other, direct]
  rfl

/-- A table command starts, a walk with its progress (R142, R162). -/
theorem startSlot_table {n : SlotNo} {b : Block} (s : State) (table : isTableCode (codeOf b) = true) :
    startSlot n b s = { setSlot n (.running b) s with
      walk := if isWalkCode (codeOf b) then some (startWalk b) else none } := by
  unfold startSlot
  rw [table]
  rfl

/-- A code that no table of section 11.5 gives completes at once (R143). -/
theorem startSlot_unknown {n : SlotNo} {b : Block} (s : State) (table : isTableCode (codeOf b) = false)
    (direct : isDirectCode (codeOf b) = false) : startSlot n b s = finished n b .badArg [] s := by
  unfold startSlot
  rw [table, direct]
  exact complete_eq _ _ _ _ _

/-- No code is both a table command's and another block's (Table 11-5). -/
theorem isTableCode_of_direct : ∀ c : Byte, isDirectCode c = true → isTableCode c = false := by
  decide

theorem isTableCode_of_walk {c : Byte} (walk : isWalkCode c = true) : isTableCode c = true := by
  unfold isTableCode
  rw [walk, Bool.or_true]

/-- FLUSH and COUNT start at the first step (R162). -/
theorem startWalk_first {b : Block} (other : codeOf b ≠ 0x12) :
    (startWalk b).cursor = 0 ∧ (startWalk b).startRef = 0 :=
  ⟨if_neg other, if_neg other⟩

/-- SEARCH starts at the step of its start ref, or past the last step (R162). -/
theorem startWalk_search {b : Block} (search : codeOf b = 0x12) :
    (startWalk b).startRef = wordAt b 2 ∧
    ((wordAt b 2).toNat < 8192 → (startWalk b).cursor = (wordAt b 2).toNat / 4) ∧
    (8192 ≤ (wordAt b 2).toNat → (wordAt b 2).toNat < 8256 →
      (startWalk b).cursor = 2048 + ((wordAt b 2).toNat - 8192) / 8) ∧
    (8256 ≤ (wordAt b 2).toNat → (startWalk b).cursor = 2056) := by
  have cursor : (startWalk b).cursor =
      if (wordAt b 2).toNat < 8256 then stepOf (wordAt b 2).toNat else 2056 := if_pos search
  refine ⟨if_pos search, fun low => ?_, fun spill low => ?_, fun high => ?_⟩
  · rw [cursor, if_pos (by omega)]
    exact if_pos low
  · rw [cursor, if_pos low]
    exact if_neg (Nat.not_lt.2 spill)
  · rw [cursor, if_neg (Nat.not_lt.2 high)]

/-- Settles O34: the code of the head's block decides how its slot starts. -/
theorem commandStarts : Obligations.CommandStarts := by
  intro n rest b s high idle head pending
  have start := exec_commandStart high idle head pending
  refine ⟨fun direct => ?_, fun table other => ?_, fun walk => ?_, fun table direct => ?_⟩
  · rw [start, startSlot_direct _ direct (isTableCode_of_direct _ direct)]
    rfl
  · rw [start, startSlot_table _ table, other]
    rfl
  · refine ⟨startWalk b, ?_, rfl, rfl, rfl, rfl, rfl, rfl, rfl, startWalk_first, startWalk_search⟩
    rw [start, startSlot_table _ (isTableCode_of_walk walk), walk]
    rfl
  · rw [start, startSlot_unknown _ table direct]

/-! ### SUBMIT and RETIRE -/

/-- SUBMIT fills the lowest EMPTY slot (R141). -/
theorem submitCommand_fills {n : SlotNo} {s : State} (empty : slotAt s n = .empty)
    (lowest : ∀ m : SlotNo, m < n → slotAt s m ≠ .empty) :
    submitCommand s =
      { setSlot n (.pending s.submission) s with
        order := s.order ++ [n]
        submitStatus := .slot n } := by
  have found : (List.finRange 4).find? (fun k => slotAt s k == .empty) = some n :=
    (find?_eq_some_iff_least (List.pairwise_lt_finRange 4)).2
      ⟨List.mem_finRange n, beq_iff_eq.2 empty, fun m _ lt => beq_eq_false_iff_ne.2 (lowest m lt)⟩
  rw [← List.head?_filter] at found
  obtain ⟨rest, first⟩ := List.head?_eq_some_iff.1 found
  unfold submitCommand slotsWhere
  rw [first]

/-- SUBMIT without an EMPTY slot reads FULL (R141). -/
theorem submitCommand_full {s : State} (full : ∀ n : SlotNo, slotAt s n ≠ .empty) :
    submitCommand s = { s with submitStatus := .full } := by
  have none : slotsWhere (· == .empty) s = [] :=
    List.filter_eq_nil_iff.2 fun n _ empty => full n (eq_of_beq empty)
  unfold submitCommand
  rw [none]

/-- A value above 3 names no slot (R174). -/
theorem slotNamed_high {v : Word16} (high : 3 < v.toNat) : slotNamed v = none := belowOf_eq_none high

theorem slotNamed_number {v : Word16} {n : SlotNo} (number : v.toNat = n.val) : slotNamed v = some n :=
  belowOf_eq_some.2 number

theorem writeRetire_done {v : Word16} {n : SlotNo} {b : Block} {r : Result} {s : State}
    (number : v.toNat = n.val) (done : slotAt s n = .done b r) : writeRetire v s = setSlot n .empty s := by
  unfold writeRetire retireSlot
  rw [slotNamed_number number]
  dsimp only
  rw [done]

/-- RETIRE leaves every slot that is not DONE (R144). -/
theorem writeRetire_other {v : Word16} {n : SlotNo} {s : State} (number : v.toNat = n.val)
    (other : ∀ b r, slotAt s n ≠ .done b r) : writeRetire v s = s := by
  unfold writeRetire retireSlot
  rw [slotNamed_number number]
  dsimp only
  split
  · next done => exact absurd done (other _ _)
  · rfl

theorem writeRetire_high {v : Word16} (s : State) (high : 3 < v.toNat) : writeRetire v s = s := by
  unfold writeRetire
  rw [slotNamed_high high]

/-- Settles O48: SUBMIT by the lowest EMPTY slot, RETIRE by the state of the slot named. -/
theorem submitAndRetire : Obligations.SubmitAndRetire := by
  refine fun v s high => ⟨fun n empty lowest => ?_, fun full => ?_, fun n b r number done => ?_, fun other => ?_⟩
  · exact (act_awake submitCommand high).trans (congrArg _ (submitCommand_fills empty lowest))
  · exact (act_awake submitCommand high).trans (congrArg _ (submitCommand_full full))
  · exact (act_awake (writeRetire v) high).trans (congrArg _ (writeRetire_done number done))
  · refine (act_awake (writeRetire v) high).trans (congrArg _ ?_)
    obtain above | ⟨n, number, other⟩ := other
    · exact writeRetire_high s above
    · exact writeRetire_other number other

/-! ### ABORT -/

/-- A slot made DONE, field by field (R143, R147). -/
theorem makeDone_eq (n : SlotNo) (b : Block) (st : Status) (values : List Word16) (s : State) :
    makeDone n b st values s =
      { s with
        slots := put .empty s.slots n.val (.done b ⟨codeOf b, st, values⟩)
        irqPending := s.irqPending ||| 1#16 } := rfl

theorem writeAbort_high {v : Word16} (s : State) (high : 3 < v.toNat) : writeAbort v s = s := by
  unfold writeAbort
  rw [slotNamed_high high]

theorem writeAbort_number {v : Word16} {n : SlotNo} (s : State) (number : v.toNat = n.val) :
    writeAbort v s = abortSlot n s := by
  unfold writeAbort
  rw [slotNamed_number number]

section
variable {n : SlotNo} {b : Block} {s : State}

/-- An EMPTY or DONE slot is not affected (R145). -/
theorem abortSlot_unaffected (other : slotAt s n = .empty ∨ ∃ b r, slotAt s n = .done b r) :
    abortSlot n s = s := by
  unfold abortSlot
  obtain empty | ⟨b, r, done⟩ := other
  · rw [empty]
  · rw [done]

/-- A PENDING slot leaves the order and is DONE (R145). -/
theorem abortSlot_pending (pending : slotAt s n = .pending b) :
    abortSlot n s = makeDone n b .aborted [] { s with order := s.order.filter (· != n) } := by
  unfold abortSlot
  rw [pending]

/-- A RUNNING command that is no walk is not affected (R145). -/
theorem abortSlot_running (running : slotAt s n = .running b) (other : isWalkCode (codeOf b) = false) :
    abortSlot n s = s := by
  unfold abortSlot
  rw [running]
  dsimp only
  rw [other]
  split <;> rfl

/-- A RUNNING walk is aborted by whether a step is in progress (R145). -/
theorem abortSlot_walk {w : Walk} (running : slotAt s n = .running b) (code : isWalkCode (codeOf b) = true)
    (walk : s.walk = some w) :
    abortSlot n s =
      if s.engine = .command then { s with walk := some { w with aborted := true } }
      else finished n b .aborted (walkValues w) s := by
  unfold abortSlot
  rw [running]
  dsimp only
  rw [walk, code, ← complete_eq]
  rfl

end

/-- Settles O49: ABORT by the state of the slot named, and of a RUNNING walk by the engine. -/
theorem abortActs : Obligations.AbortActs := by
  intro v s high
  have abort : exec (.abort v) s = .next (writeAbort v s) := act_awake (writeAbort v) high
  refine ⟨fun above => abort.trans (congrArg _ (writeAbort_high s above)), fun n number => ?_⟩
  rw [abort, writeAbort_number s number]
  refine ⟨fun other => ?_, fun b pending => ?_, fun b running => ⟨fun other => ?_, fun w code walk => ?_⟩⟩
  · rw [abortSlot_unaffected other]
  · rw [abortSlot_pending pending, makeDone_eq]
  · rw [abortSlot_running running other]
  · rw [abortSlot_walk running code walk]
    exact ⟨fun step => congrArg _ (if_pos step), fun between => congrArg _ (if_neg between)⟩

end Sys2Proof.Machine

namespace Sys2Proof.Machine

-- One proof at a time: the whole text then compiles in few threads.
set_option Elab.async false

/-! ### The refusals of the entry commands -/

/-- Tests 2 to 5 of R151: what makes an INSERT's kind, class and member set unfit for its address. -/
def InsertUnfit (o : InsertOperands) : Prop :=
  addressClass o.key.address = .broadcast ∨
    (addressClass o.key.address = .unicast ∧ o.isGroup = true) ∨
    (addressClass o.key.address = .group ∧ o.isGroup = false) ∨
    (o.isGroup = true ∧ o.isStatic = false) ∨ (o.isGroup = true ∧ o.members = 0)

/-- An unfit INSERT has no place to fill (R151). -/
theorem insertPlace_unfit {o : InsertOperands} (unfit : InsertUnfit o) : insertPlace o = none := by
  unfold insertPlace
  split
  · next unicast kind _ =>
    obtain c | ⟨-, k⟩ | ⟨c, -⟩ | ⟨k, -⟩ | ⟨k, -⟩ := unfit
    · exact nomatch unicast.symm.trans c
    · exact nomatch kind.symm.trans k
    · exact nomatch unicast.symm.trans c
    · exact nomatch kind.symm.trans k
    · exact nomatch kind.symm.trans k
  · next group kind =>
    obtain c | ⟨c, -⟩ | ⟨-, k⟩ | ⟨-, learned⟩ | ⟨-, empty⟩ := unfit
    · exact nomatch group.symm.trans c
    · exact nomatch group.symm.trans c
    · exact nomatch kind.symm.trans k
    · rw [learned]
      rfl
    · rw [empty, bne_self_eq_false, Bool.and_false]
      rfl
  · rfl

section
variable {b : Block} {s : State}

theorem insertWork_refused (s : State) (operands : insertOperands b = none) :
    insertWork b s = (s, .badArg, []) := by
  unfold insertWork
  rw [operands]
  rfl

theorem insertWork_unfit {o : InsertOperands} (s : State) (operands : insertOperands b = some o)
    (unfit : InsertUnfit o) : insertWork b s = (s, .badArg, []) := by
  unfold insertWork
  rw [operands]
  dsimp only
  rw [insertPlace_unfit unfit]
  rfl

/-- INSERT is refused a key that an entry holds (R151 test 6). -/
theorem insertWork_exists {o : InsertOperands} {p : Place} {ref : Nat} (operands : insertOperands b = some o)
    (place : insertPlace o = some p) (found : searchKey s o.key = some ref) :
    insertWork b s = (s, .alreadyExists, pairWords (pairAt s ref)) := by
  unfold insertWork
  rw [operands]
  dsimp only
  rw [place]
  dsimp only
  rw [found]
  rfl

/-- INSERT is refused without a FREE place for its key (R151 test 7). -/
theorem insertWork_noRoom {o : InsertOperands} {p : Place} (operands : insertOperands b = some o)
    (place : insertPlace o = some p) (absent : searchKey s o.key = none) (full : freePlace s o.key = none) :
    insertWork b s = (s, .noRoom, []) := by
  unfold insertWork
  rw [operands]
  dsimp only
  rw [place]
  dsimp only
  rw [absent]
  dsimp only
  rw [full]
  rfl

theorem removeWork_high (s : State) (high : 8256 ≤ (wordAt b 2).toNat) :
    removeWork b s = (s, .badArg, []) := by
  unfold removeWork
  rw [pairOf_high high]
  rfl

theorem removeWork_stale {p : Pair} (pair : pairOf b = some p) (stale : current s p = false) :
    removeWork b s = (s, .staleRef, []) := by
  unfold removeWork
  rw [pair]
  dsimp only
  rw [stale]
  rfl

theorem removeKeyWork_refused (s : State) (key : searchableKeyOf b = none) :
    removeKeyWork b s = (s, .badArg, []) := by
  unfold removeKeyWork
  rw [key]
  rfl

theorem removeKeyWork_notFound {k : Key} (key : searchableKeyOf b = some k) (absent : searchKey s k = none) :
    removeKeyWork b s = (s, .notFound, []) := by
  unfold removeKeyWork
  rw [key]
  dsimp only
  rw [absent]
  rfl

theorem findWork_refused (s : State) (key : searchableKeyOf b = none) :
    findWork b s = (s, .badArg, []) := by
  unfold findWork
  rw [key]
  rfl

theorem findWork_notFound {k : Key} (key : searchableKeyOf b = some k) (absent : searchKey s k = none) :
    findWork b s = (s, .notFound, []) := by
  unfold findWork
  rw [key]
  dsimp only
  rw [absent]
  rfl

theorem readWork_high (s : State) (high : 8256 ≤ (wordAt b 2).toNat) : readWork b s = (s, .badArg, []) := by
  unfold readWork refOf
  rw [if_neg (Nat.not_lt.2 high)]
  rfl

end

/-- Settles O36: each test that refuses leaves the state, and the command ends with its status. -/
theorem hostEntryCommandsRefused : Obligations.HostEntryCommandsRefused := by
  refine ⟨fun n b s h => ⟨fun operands => ?_, fun o operands => ⟨fun unfit => ?_, fun p place =>
      ⟨fun ref found => ?_, fun absent full => ?_⟩⟩⟩,
    fun n b s => ⟨fun h => ⟨fun high => ?_, fun low stale => ?_⟩,
      fun h => ⟨fun key => ?_, fun k key absent => ?_⟩, fun h => ⟨fun key => ?_, fun k key absent => ?_⟩,
      fun h high => ?_⟩⟩
  · exact tableCommand_ended h (insertWork_refused _ operands)
  · exact tableCommand_ended h (insertWork_unfit _ operands unfit)
  · exact tableCommand_ended h (insertWork_exists operands place found)
  · exact tableCommand_ended h (insertWork_noRoom operands place absent full)
  · exact tableCommand_ended h (removeWork_high _ high)
  · exact tableCommand_ended h (removeWork_stale (pairOf_named low) stale)
  · exact tableCommand_ended h (removeKeyWork_refused _ key)
  · exact tableCommand_ended h (removeKeyWork_notFound key absent)
  · exact tableCommand_ended h (findWork_refused _ key)
  · exact tableCommand_ended h (findWork_notFound key absent)
  · exact tableCommand_ended h (readWork_high _ high)

/-! ### UPDATE -/

/-- The generation word of an UPDATE's result is bits 7–0 of word 3 (R154, R185). -/
theorem updateValues_eq (b : Block) : updateValues b = [wordAt b 2, wordAt b 3 &&& 0xFF] := by
  have low (w : Word16) : (w.setWidth 8).setWidth 16 = w &&& 0xFF := by
    refine BitVec.eq_of_toNat_eq ?_
    rw [BitVec.toNat_and, show (0xFF : Word16).toNat = 2 ^ 8 - 1 from rfl, Nat.and_two_pow_sub_one_eq_mod,
      BitVec.toNat_setWidth, BitVec.toNat_setWidth]
    omega
  unfold updateValues generationOf
  rw [low]

section
variable {b : Block} {p : Pair} {u : UpdateChanges} {o : Occupant} {s : State}

theorem updateWork_refused (s : State) (refused : 8256 ≤ (wordAt b 2).toNat ∨ updateChanges b = none) :
    updateWork b s = (s, .badArg, updateValues b) := by
  unfold updateWork
  obtain high | changes := refused
  · rw [pairOf_high high]
    rfl
  · rw [changes]
    cases pairOf b <;> rfl

theorem updateWork_stale (pair : pairOf b = some p) (changes : updateChanges b = some u)
    (stale : current s p = false) : updateWork b s = (s, .staleRef, updateValues b) := by
  unfold updateWork
  rw [pair, changes]
  dsimp only
  rw [stale]
  rfl

/-- UPDATE on a current entry makes its changes when the state tests allow them (R154). -/
theorem updateWork_current (pair : pairOf b = some p) (changes : updateChanges b = some u)
    (entry : entryAt s p.ref = ⟨p.generation, some o⟩) :
    updateWork b s =
      if updateAllowed u o then (setOccupant p.ref (updated u o s) s, .ok, updateValues b)
      else (s, .badArg, updateValues b) := by
  unfold updateWork
  rw [pair, changes]
  dsimp only
  rw [current_of_entry entry, entry]
  rfl

end

theorem isLearned_eq (l : Life) : isLearned l = decide (l ≠ .pinned) := by
  cases l <;> rfl

/-- The state tests of R155 to R157, one for each kind of change. -/
theorem updateAllowed_iff {u : UpdateChanges} {o : Occupant} :
    updateAllowed u o = true ↔
      (u.pin = true → o.life ≠ .pinned) ∧
      (u.unpin = true → o.life = .pinned ∧ isUnicast o.place = true) ∧
      (u.home ≠ none → isUnicast o.place = true) ∧ (u.members ≠ none → isUnicast o.place = false) ∧
      (u.unfreeze = true ∨ u.clearMoves = true → learnedAfter u o.life = true) := by
  have implies (p q : Bool) : (!p || q) = true ↔ (p = true → q = true) := by cases p <;> simp
  simp only [updateAllowed, Bool.and_eq_true, implies, and_assoc, isLearned_eq, decide_eq_true_eq,
    Bool.not_eq_true', decide_eq_false_iff_not, not_not, Option.isSome_iff_ne_none, Bool.or_eq_true]

/-- The life after an UPDATE's changes: a pin or an unpin decides it, and otherwise the fields of a learned entry
are thawed (R155, R157). -/
theorem updated_life (u : UpdateChanges) (o : Occupant) (s : State) :
    (updated u o s).life =
      if u.pin then .pinned else if u.unpin then .live ⟨true, 0, false⟩ else onAging (thawed u) o.life := by
  have fresh : thawed u ⟨true, 0, false⟩ = ⟨true, 0, false⟩ := by
    simp only [thawed, ite_self]
  simp only [updated, pinned, apply_ite (onAging (thawed u))]
  rw [onAging, onAging, fresh]

/-- Settles O37: the operands, the pair and the state tests in order, then one write of the entry. -/
theorem updateChangesEntry : Obligations.UpdateChangesEntry := by
  intro n b s h p values
  have returned : updateValues b = values := updateValues_eq b
  refine ⟨fun refused => ?_, fun u low changes => ⟨fun stale => ?_, ?_⟩⟩
  · exact tableCommand_ended h (returned ▸ updateWork_refused _ refused)
  · exact tableCommand_ended h (returned ▸ updateWork_stale (pairOf_named low) changes stale)
  · intro o entry learned unicast allowed thaw changed
    have tests : updateAllowed u o = true ↔ allowed := by
      rw [updateAllowed_iff, learnedAfter, isLearned_eq]
      exact Iff.rfl
    have made : updated u o { s with engine := .idle } = changed :=
      congrArg (fun l : Life => { updated u o { s with engine := .idle } with life := l })
        (updated_life u o { s with engine := .idle })
    have entry' : entryAt { s with engine := .idle } p.ref = ⟨p.generation, some o⟩ := entry
    have work := updateWork_current (pairOf_named low) changes entry'
    rw [returned, made] at work
    refine ⟨fun refused => tableCommand_ended h ?_, fun allows => tableCommand_ended h ?_⟩
    · rw [work, if_neg (fun test => refused (tests.1 test))]
    · rw [work, if_pos (tests.2 allows), setOccupant, entry']
      rfl

/-! ### COUNT and SEARCH -/

section
variable {n : SlotNo} {b : Block} {w : Walk} {s : State}

/-- A walk marked aborted ends ABORTED, whatever its step found (R145, R169). -/
theorem afterStep_aborted (atEnd : Status) (found : Option Nat) (s : State) (aborted : w.aborted = true) :
    afterStep n b w atEnd found s = finished n b .aborted (walkValues w) s := by
  unfold afterStep
  rw [if_pos aborted, complete_eq]

/-- SEARCH ends with what it found (R167). -/
theorem afterStep_found (atEnd : Status) (ref : Nat) (s : State) (going : w.aborted = false) :
    afterStep n b w atEnd (some ref) s =
      finished n b .ok (walkValues w ++ entryImage ref (entryAt s ref)) s := by
  unfold afterStep
  rw [going, complete_eq, complete_eq]
  rfl

/-- A walk whose step found nothing, made as its last, ends (R169). -/
theorem afterStep_last (atEnd : Status) (s : State) (going : w.aborted = false) (last : 2056 ≤ w.cursor) :
    afterStep n b w atEnd none s = finished n b atEnd (walkValues w) s := by
  rw [afterStep_none, going, if_pos last]
  rfl

/-- A walk whose step found nothing goes on before its last step (R162). -/
theorem afterStep_on (atEnd : Status) (s : State) (going : w.aborted = false) (more : w.cursor < 2056) :
    afterStep n b w atEnd none s = { s with walk := some w } := by
  rw [afterStep_none, going, if_neg (Nat.not_le.2 more)]
  rfl

/-- A walk's operation with refused operands ends it (R164, log 10). -/
theorem walk_refused {c : Byte} (step : Selector → Walk → State → StepFound) (atEnd : Status)
    (h : CommandGranted c n b s) (walk : s.walk = some w) (refused : walkOperands w = none) :
    commandOperation c (walkWork c step atEnd) .finish s =
      .next (ended n b (if w.aborted then .aborted else .badArg) (walkValues w) s) := by
  rw [commandOperation_finish _ h,
    walkWork_refused (s := { s with engine := .idle }) step atEnd h.running walk refused]
  rfl

/-- A walk's operation makes its step in the granted state, the engine idle (R164). -/
theorem walk_stepped {c : Byte} {q : Selector} (step : Selector → Walk → State → StepFound)
    (atEnd : Status) (h : CommandGranted c n b s) (walk : s.walk = some w)
    (operands : walkOperands w = some q) {k : Nat} {found : Option Nat}
    (made : step q w { s with engine := .idle } = ({ s with engine := .idle }, k, found)) :
    commandOperation c (walkWork c step atEnd) .finish s =
      .next (afterStep n b (advanced w k) atEnd found { s with engine := .idle }) := by
  rw [commandOperation_finish _ h,
    walkWork_step (s := { s with engine := .idle }) step atEnd h.running walk operands, made]

end

/-- Settles O42: refused operands end the walk, and the step's find decides how it goes on. -/
theorem countAndSearchStep : Obligations.CountAndSearchStep := by
  refine ⟨fun n b w s walk refused => ⟨fun h => walk_refused countStep .ok h walk refused,
      fun h => walk_refused searchStep .notFound h walk refused⟩,
    fun n b w q s walk operands => ⟨fun h => ?_, fun h => ?_⟩⟩
  · intro found w' values
    have run : exec (.count .finish) s = .next (afterStep n b w' .ok none { s with engine := .idle }) :=
      walk_stepped countStep .ok h walk operands rfl
    rw [run]
    refine ⟨fun aborted => ?_, fun going last => ?_, fun going more => ?_⟩
    · exact congrArg _ (afterStep_aborted .ok none _ aborted)
    · exact congrArg _ (afterStep_last .ok _ going (Nat.succ_le_succ last))
    · exact congrArg _ (afterStep_on .ok _ going (Nat.succ_lt_succ more))
  · intro found w' values
    have run : exec (.search .finish) s =
        .next (afterStep n b w' .notFound found { s with engine := .idle }) :=
      walk_stepped searchStep .notFound h walk operands (k := 0) rfl
    rw [run]
    refine ⟨fun aborted => ?_, fun going => ⟨fun ref hit => ?_, fun miss last => ?_, fun miss more => ?_⟩⟩
    · exact congrArg _ (afterStep_aborted .notFound found _ aborted)
    · rw [hit]
      exact congrArg _ (afterStep_found .notFound ref _ going)
    · rw [miss]
      exact congrArg _ (afterStep_last .notFound _ going (Nat.succ_le_succ last))
    · rw [miss]
      exact congrArg _ (afterStep_on .notFound _ going (Nat.succ_lt_succ more))

end Sys2Proof.Machine

namespace Sys2Proof.Machine

-- One proof at a time: the whole text then compiles in few threads.
set_option Elab.async false

/-! ### The interrupt line -/

/-- Two words share a bit exactly when their conjunction is not zero. -/
theorem and_ne_zero_iff_common_bit {p e : Word16} :
    p &&& e ≠ 0 ↔ ∃ k, p.getLsbD k = true ∧ e.getLsbD k = true := by
  constructor
  · intro nonzero
    by_contra apart
    refine nonzero (BitVec.eq_of_getLsbD_eq fun k _ => ?_)
    simpa using fun pending enabled => apart ⟨k, pending, enabled⟩
  · rintro ⟨k, pending, enabled⟩ zero
    have bit := congrArg (BitVec.getLsbD · k) zero
    simp [pending, enabled] at bit

/-- INT# stands low exactly while some cause is pending and enabled (R179, R187). -/
theorem intPin_eq_false_iff {s : State} (high : awake s) :
    intPin s = false ↔ ∃ k, s.irqPending.getLsbD k = true ∧ s.irqEnable.getLsbD k = true := by
  have asserted : intAsserted s = (s.irqPending &&& s.irqEnable != 0) := by
    rw [intAsserted, high, Bool.not_false, Bool.true_and]
  rw [intPin, Bool.not_eq_false', asserted, bne_iff_ne, and_ne_zero_iff_common_bit]

/-- Settles O50: both writes are made while RESET# is high, and the pin is a bit common to both words. -/
theorem interruptWords : Obligations.InterruptWords :=
  ⟨fun v _ high => act_awake (clearCauses v) high, fun v _ high => act_awake (enableCauses v) high,
    fun _ high => intPin_eq_false_iff high⟩

/-! ### While RESET# is low -/

section
variable {s : State} (low : s.resetLow = true)
include low

theorem operationParts_held (offered : State → Bool) (grant finish : State → State) (part : OpPart) :
    operationParts offered grant finish part s = .next s := by
  cases part <;> exact act_held _ low

theorem execResolve_held (part : LaneOpPart) : execResolve part s = .next s := by
  cases part <;> exact act_held _ low

theorem execSettleOperation_held (part : LaneOpPart) : execSettleOperation part s = .next s := by
  cases part <;> exact act_held _ low

/-- While RESET# is low only the two commands of the pin itself change anything (R181). -/
theorem exec_of_resetLow {c : Instr} (notPin : c ≠ .resetPin) (notRelease : c ≠ .resetPinRelease) :
    exec c s = .next s := by
  cases c with
  | resetPin => exact absurd rfl notPin
  | resetPinRelease => exact absurd rfl notRelease
  | resolve part => exact execResolve_held low part
  | settleOperation part => exact execSettleOperation_held low part
  | sweepStep part | insert part | update part | remove part | removeKey part | find part | read part
  | attach part | detach part | setHash part | setSpillMark part | readTableStats part | flush part
  | count part | search part =>
    exact operationParts_held low _ _ _ part
  | _ => exact act_held _ low

theorem windowRead_of_resetLow (address : BitVec 7) : windowRead s address = 0 := if_pos low

theorem intPin_of_resetLow : intPin s = true := by
  rw [intPin, intAsserted, low]
  rfl

theorem transmitLines_of_resetLow (l : LaneNo) : transmitLines s l = [linkIdle] := if_pos low

end

/-! ### Device reset -/

theorem writeReset_resetValue (s : State) : writeReset 0x5A17 s = deviceReset s := if_pos rfl

theorem writeReset_other {v : Word16} (s : State) (other : v ≠ 0x5A17) : writeReset v s = s := if_neg other

/-- Settles O2: the reset word by the value written, the pin by its two commands, and each output of a part
held in reset. -/
theorem deviceResetAndPin : Obligations.DeviceResetAndPin := by
  refine ⟨⟨fun s high => ?_, fun v s high other => ?_, fun _ => rfl, fun _ => rfl⟩, fun s low =>
    ⟨fun _ notPin notRelease => exec_of_resetLow low notPin notRelease, windowRead_of_resetLow low,
      intPin_of_resetLow low, transmitLines_of_resetLow low⟩⟩
  · exact (act_awake (writeReset 0x5A17) high).trans (congrArg _ (writeReset_resetValue s))
  · exact (act_awake (writeReset v) high).trans (congrArg _ (writeReset_other s other))

end Sys2Proof.Machine

namespace Sys2Proof.Machine

-- One proof at a time: the whole text then compiles in few threads.
set_option Elab.async false

/-! ### The fields of the messages the part sends -/

/-- A table that lists every value with its code, no code twice, gives each value a code of its own. -/
theorem injective_of_codeTable {α : Type} {code : α → Byte} (table : List α) (full : ∀ x, x ∈ table)
    (distinct : (table.map code).Nodup) : Function.Injective code :=
  fun _ _ same => List.inj_on_of_nodup_map distinct (full _) (full _) same

theorem actionCode_injective : Function.Injective actionCode :=
  injective_of_codeTable [.forward, .flood, .drop] (fun x => by cases x <;> decide) (by decide)

theorem reasonCode_injective : Function.Injective reasonCode :=
  injective_of_codeTable
    [.none, .broadcast, .unknownUnicast, .unknownGroup, .newDest, .domainOff, .notMember, .badSource,
      .sourceDenied, .pinnedElsewhere, .moveFrozen, .meter, .destDenied, .sameLane, .homeOutside,
      .unknownDropped, .emptySet]
    (fun x => by cases x <;> decide) (by decide)

theorem nackCode_injective : Function.Injective nackCode :=
  injective_of_codeTable [.late, .unknown] (fun x => by cases x <;> decide) (by decide)

theorem faultCode_injective : Function.Injective faultCode :=
  injective_of_codeTable [.check, .type, .length, .tagBusy, .notReady, .held]
    (fun x => by cases x <;> decide) (by decide)

/-- The tag byte the part sends names its tag (R183). -/
theorem tagOfByte_byteOfTag (t : TagNo) : tagOfByte (byteOfTag t) = t := by
  apply Fin.ext
  simp only [tagOfByte, byteOfTag, BitVec.val_toFin, BitVec.toNat_setWidth, BitVec.toNat_ofNat]
  omega

theorem byteOfTag_injective : Function.Injective byteOfTag :=
  Function.LeftInverse.injective tagOfByte_byteOfTag

theorem bytesOf16_injective : Function.Injective bytesOf16 := by
  intro v w same
  obtain ⟨high, low⟩ : (v >>> 8).setWidth 8 = (w >>> 8).setWidth 8 ∧ v.setWidth 8 = w.setWidth 8 := by
    simpa [bytesOf16] using same
  rw [← word16Of_bytesOf16 v, high, low, word16Of_bytesOf16]

/-- The check byte only follows the bytes it closes (R184). -/
theorem withCheck_injective : Function.Injective withCheck :=
  fun _ _ same => (List.append_inj' same rfl).1

/-! ### The messages the part sends -/

/-- The first byte of a message the part sends: its type (Table 11-2). -/
def typeByte : LaneMessage → Byte
  | .verdict _ _ => 0x21
  | .nack _ _ => 0x22
  | .pause _ => 0x23
  | .resume => 0x24
  | .fault _ => 0x2E
  | .restartAck => 0x2F

/-- The bytes between a sent message's type and its check byte (Table 11-2). -/
def fieldBytes : LaneMessage → List Byte
  | .verdict t v => [byteOfTag t, actionCode v.action, v.ports, reasonCode v.reason]
  | .nack t r => [byteOfTag t, nackCode r]
  | .pause q => bytesOf16 q
  | .fault r => [faultCode r]
  | .resume | .restartAck => []

theorem laneMessageBytes_eq (m : LaneMessage) :
    laneMessageBytes m = withCheck (typeByte m :: fieldBytes m) := by
  cases m <;> rfl

/-- Within one type the fields' bytes determine the fields; two types differ in their first byte. -/
theorem eq_of_typeByte_of_fieldBytes {m₁ m₂ : LaneMessage} (type : typeByte m₁ = typeByte m₂)
    (fields : fieldBytes m₁ = fieldBytes m₂) : m₁ = m₂ := by
  cases m₁ <;> cases m₂
  case verdict.verdict t v u w =>
    obtain ⟨a₁, p₁, r₁⟩ := v
    obtain ⟨a₂, p₂, r₂⟩ := w
    simp only [fieldBytes, List.cons.injEq, and_true] at fields
    obtain ⟨tag, action, ports, reason⟩ := fields
    rw [byteOfTag_injective tag, actionCode_injective action, ports, reasonCode_injective reason]
  case nack.nack =>
    simp only [fieldBytes, List.cons.injEq, and_true] at fields
    obtain ⟨tag, reason⟩ := fields
    rw [byteOfTag_injective tag, nackCode_injective reason]
  case pause.pause => exact congrArg _ (bytesOf16_injective fields)
  case fault.fault => exact congrArg _ (faultCode_injective (List.cons.inj fields).1)
  case resume.resume => rfl
  case restartAck.restartAck => rfl
  all_goals simp [typeByte] at type

/-- Settles O12: the check byte taken off, the first byte gives the type and the rest the fields. -/
theorem sentMessagesDistinct : Obligations.SentMessagesDistinct := by
  intro m₁ m₂ same
  rw [laneMessageBytes_eq, laneMessageBytes_eq] at same
  obtain ⟨type, fields⟩ := List.cons.inj (withCheck_injective same)
  exact eq_of_typeByte_of_fieldBytes type fields

end Sys2Proof.Machine
